-- ==== Sys2Proof/Word.lean ====
section
/-! DEFINITION. The plain words of the part: bytes, line times, levels, and the numbers that name ports, lines,
tickets, slots and watches. Every other file of the package is written in these. -/

namespace Sys2Proof

/-- A byte of a frame, a payload or the flash. -/
abbrev Byte := BitVec 8

/-- Line time: a 32-bit count of microseconds that wraps (R128). -/
abbrev LineTime := BitVec 32

/-- A level of a line, 0 (`false`) or 1 (`true`). -/
abbrev Level := Bool

/-- Port n, and agent n, the domain that uses it (0.6). -/
abbrev Port := Fin 3

/-- A line, L0 to L47 (R23). -/
abbrev LineId := Fin 48

/-- An interlock table slot (R49). -/
abbrev RuleSlot := Fin 32

/-- A sequencer slot (R113). -/
abbrev SlotId := Fin 2

/-- A sequence store entry (R109). -/
abbrev SeqNumber := Fin 8

/-- A claim ticket of a session (R73). -/
abbrev TicketId := Fin 4

/-- A watch id of a session (R130). -/
abbrev WatchId := Fin 16

/-- A group number (R66). -/
abbrev GroupId := Fin 12

/-- Bytes of one flash slot, as pairs of an offset in the slot and the byte that stands there. -/
abbrev FlashCells := List (Nat × Byte)

/-- A flash command that the device never finished: the line time at which it was sent (R161 to R163, log 10), and the
bytes that the device left changed (log 9). -/
structure FlashWait where
  sent : LineTime
  left : FlashCells
deriving DecidableEq, Repr

/-- All lines in line order (0.6: "line order means ascending line number"). -/
def allLines : List LineId := List.finRange 48

/-- The lines of a list, each once, in ascending line order. -/
def ascending (ls : List LineId) : List LineId := allLines.filter (fun l => ls.contains l)

end Sys2Proof
end

