-- ==== Sys2Proof/Syntax.lean ====
section
/-! DEFINITION. The commands of the block: one constructor of `Instr` per row of spec/opcode_table.json.
A request command is a whole request frame that has passed the frame and request checks of R180; its operands are the
header fields and the argument bytes as R179 codes them, so that every value the wire can carry is here, those a
request refuses included. The other commands are the events that reach the part's pins, timers and flash port. -/

namespace Sys2Proof

/-- What every request frame carries beside its code and payload (9.2): the port it arrives on, its sequence number
and its session tag. -/
structure Header where
  port : Port
  seq  : Byte
  tag  : Byte
deriving DecidableEq, Repr

/-- A target argument (R179): the byte 00h line or 01h group, then the number. -/
structure RawTarget where
  kind   : Byte
  number : Byte
deriving DecidableEq, Repr

/-- A drive argument (R179): mode, level. -/
structure RawDrive where
  mode  : Byte
  level : Byte
deriving DecidableEq, Repr

/-- One 3-byte entry of a SET payload (R179). -/
structure RawSetEntry where
  line  : Byte
  drive : RawDrive
deriving DecidableEq, Repr

/-- One 5-byte step of a STORE_SEQUENCE payload (R179). -/
structure RawStep where
  line  : Byte
  drive : RawDrive
  hold  : BitVec 16
deriving DecidableEq, Repr

/-- One 2-byte notice identifier of an ACK payload (R179). -/
structure RawNoticeId where
  kind  : Byte
  index : Byte
deriving DecidableEq, Repr

/-- The causes of BAD_FRAME (R171, R180). -/
inductive FrameFault where
  | crc | length | short
deriving DecidableEq, Repr

/-- The causes of BAD_REQUEST (R180). -/
inductive RequestFault where
  | unknownCode | payloadLength
deriving DecidableEq, Repr

/-- The commands. Constructors of the first block are requests (9.9); the rest are events. -/
inductive Instr where
  /-- OPEN: keepalive period, miss limit, attention mask. `sensed` is the level of the port's presence input at the
  event (R97). -/
  | openSession (h : Header) (period : BitVec 16) (limit mask : Byte) (sensed : Level)
  | closeSession (h : Header)
  | tick (h : Header)
  | setMask (h : Header) (mask : Byte)
  | status (h : Header)
  | identify (h : Header)
  /-- CLAIM: target, patience, term, optional drive (mode FFh absent), urgency. -/
  | claim (h : Header) (target : RawTarget) (patience : BitVec 16) (term : BitVec 32) (drive : RawDrive) (urgency : Byte)
  | cancel (h : Header) (ticket : Byte)
  | release (h : Header) (target : RawTarget)
  | setDrives (h : Header) (entries : List RawSetEntry)
  | setHeir (h : Header) (line heir : Byte)
  | extend (h : Header) (target : RawTarget) (term : BitVec 32)
  | clearFault (h : Header) (line : Byte)
  | snapshot (h : Header)
  | inspect (h : Header) (line : Byte)
  | addInterlock (h : Header) (x a y b : Byte)
  | dropInterlock (h : Header) (slot : Byte)
  | listInterlocks (h : Header)
  | storeSequence (h : Header) (number : Byte) (steps : List RawStep)
  | dropSequence (h : Header) (number : Byte)
  | runSequence (h : Header) (number : Byte)
  | abortRun (h : Header) (slot : Byte)
  | addWatch (h : Header) (line edge : Byte) (filter : BitVec 16) (urgency : Byte)
  | dropWatch (h : Header) (id : Byte)
  | notices (h : Header)
  | ack (h : Header) (ids : List RawNoticeId)
  | profileRead (h : Header) (slot : Byte) (offset : BitVec 16) (length : Byte)
  | profileErase (h : Header)
  | profileWrite (h : Header) (offset : BitVec 16) (data : List Byte)
  | profileCommit (h : Header)
  | restart (h : Header)
  /-- BAD_FRAME: a frame that fails the frame check; `seq` is the sequence byte if one was received, `received` the
  bytes of the transaction (R171). -/
  | badFrame (port : Port) (seq : Option Byte) (cause : FrameFault) (received : Nat)
  /-- BAD_REQUEST: a complete frame with an unknown code or a disallowed payload length (R180). -/
  | badRequest (h : Header) (cause : RequestFault) (length : Byte)
  | requestIgnored (port : Port)
  | collect (port : Port)
  | responseConsumed (port : Port)
  /-- PRESENCE_FALL: `midFrame` says that bytes of a request frame not yet complete have been received (R178). -/
  | presenceFall (port : Port) (midFrame : Bool)
  /-- RESET_LOW: `left` is what an abandoned program or erase leaves in the spare slot (R156). -/
  | resetLow (left : FlashCells)
  /-- RESET_RELEASE, or power-on: `levels` is what every pad is sensed at, L0 at bit 0 (R20). -/
  | resetRelease (levels : BitVec 48) (left : FlashCells)
  | loadEnd
  | loadStatusTimeout
  | observedLevelChange (line : LineId) (level : Level)
  | stageEnd (line : LineId)
  | readbackDeadline (line : LineId)
  | termDeadline (line : LineId)
  | patienceDeadline (port : Port) (ticket : TicketId)
  | periodDeadline (port : Port)
  | holdDeadline (slot : SlotId)
  | filterDeadline (port : Port) (id : WatchId)
  | wakeFilterDeadline (number : Fin 8)
  /-- ERASE_END: `left` lists the bytes of the sector that the device failed to erase; none on a sound device. -/
  | eraseEnd (left : FlashCells)
  /-- ERASE_TIMEOUT: `wait` says when the erase command was sent (R161). -/
  | eraseTimeout (wait : FlashWait)
  /-- WRITE_END: `left` lists the bytes that the device left at another value than R147 gives. -/
  | writeEnd (left : FlashCells)
  /-- PROGRAM_TIMEOUT: `wait` says when the page program was sent (R162, R163). -/
  | programTimeout (wait : FlashWait)
  | commitEnd (left : FlashCells)
  | readEnd
  | selectRelease (port : Port)
  | ignoredTransaction (port : Port)
  | flashStatusBusy
deriving DecidableEq, Repr

end Sys2Proof
end

