-- ==== Sys2Proof/Decode.lean ====
section
/-! DEFINITION. The opcode table gives no row any bits (its "fields" are empty and it has no "fixed" ones), so no word
spells a command: `decodeTableWord` answers none. The codes in which the wire spells requests (R182) are in
Machine/Frame.lean. -/

namespace Sys2Proof

/-- The command that a word spells by the table's bits: the table gives none of its rows bits. -/
def decodeTableWord (_nbits _w : Nat) : Option Instr := none

end Sys2Proof
end

