-- ==== Sys2Proof/Config.lean ====
section
/-! DEFINITION. What the spec leaves open: free values, constants with no body, so that nothing can be proved of
which value they take. Each is named in the assumption log. -/

namespace Sys2Proof

/-- FREE VALUE (log 5). Which of several deadline events that fall at one line time is taken first; the spec gives
the result for either order (0.6). Applied to the counter `State.choices` and taken modulo their number. -/
opaque Config.dueChoice : Nat → Nat

/-- FREE VALUE (log 11). The byte that stands, in a response payload, for a field that is absent or is "none" where
the spec gives no coding for it (R44, R166, R179); the argument numbers the field. -/
opaque Config.absentByte : Nat → Byte

/-- FREE VALUE (log 11). The byte that stands in STATUS for a slot result that is valid (`true`) or NOT_READ
(`false`), for which R166 gives no code. -/
opaque Config.slotResultByte : Bool → Byte

/-- FREE VALUE (log 11). The bytes in which IDENTIFY sends the vendor and part names (R167 gives the names, and no
coding of text). -/
opaque Config.nameByte : Nat → Byte

/-- FREE VALUE (log 11). The level that a response sends for the drive FLOAT, which has none (0.6, R179). -/
opaque Config.floatLevel : Bool

/-- FREE VALUE (log 27). The "generation required" that IMAGE_INVALID carries where the loaded generation is
4,294,967,295: R163 says that no image can meet it and gives no 4-byte value. -/
opaque Config.unmetGeneration : BitVec 32

end Sys2Proof
end

