-- ==== Sys2Proof/Machine/State.lean ====
section
/-! DEFINITION. Everything the spec gives the part, as plain data, with `State.reset` and the reasons to stop. -/

namespace Sys2Proof.Machine

/-! ## Lines and moves (chapters 1 and 2) -/

/-- A drive (0.6, R1). -/
inductive Drive where
  | float
  | keep (level : Level)
  | sink (level : Level)
  | drive (level : Level)
deriving DecidableEq, Repr

/-- The line states (R24). -/
inductive LineState where
  | free | held | moving | releasing
deriving DecidableEq, Repr

/-- A holder (0.6). -/
inductive Holder where
  | none
  | agent (n : Port)
  | profile
deriving DecidableEq, Repr

/-- Why a line has no holder (2.1). -/
inductive FreeReason where
  | start | released | termEnded | lost | restart
deriving DecidableEq, Repr

/-- A recorded fault (R14). -/
inductive LineFault where
  | none | readback
deriving DecidableEq, Repr

/-- What drive a released line keeps (2.4). -/
inductive Disposition where
  | present | fallback
deriving DecidableEq, Repr

/-- The kind of a move (1.2). -/
inductive MoveKind where
  | ordinary | release
deriving DecidableEq, Repr

/-- move.stages: a list of one or two drives (1.2). -/
inductive Stages where
  | one (target : Drive)
  | two (first target : Drive)
deriving DecidableEq, Repr

/-- move.index: the stage in progress (1.2). -/
inductive StageIndex where
  | first | second
deriving DecidableEq, Repr

/-- A move in progress (1.2), with the origin that the Interlock Checker records (R51). -/
structure Move where
  kind     : MoveKind
  stages   : Stages
  index    : StageIndex
  deadline : LineTime
  origin   : Option Drive
deriving DecidableEq, Repr

/-- The readback check (R13). -/
inductive Readback where
  | off
  | armed
  | counting (deadline : LineTime)
deriving DecidableEq, Repr

/-- The static fields of a line record (2.1). -/
structure Statics where
  pinned      : Bool
  settle      : Nat
  fallback    : Drive
  disposition : Disposition
  defaultHeir : Option Port
  group       : Option GroupId
deriving DecidableEq, Repr

/-- The keeper of a pad in KEEP (R1): the level it holds, and the line time of the strong drive that the pad made as it
entered that drive. The level is that of the strong drive in the microsecond of the entry, and then the level that the pad
is sensed at (log 24). -/
structure Keeper where
  level    : Level
  drivenAt : LineTime
deriving DecidableEq, Repr

/-- A line record (2.1) and the Drive Unit's record of the same line (1.2), each shared field once (R3): `drive` is
also the pad drive; target and stage are views of `move`; `keeper` is present exactly while the drive is KEEP (R1). -/
structure Line where
  state      : LineState
  holder     : Holder
  drive      : Drive
  keeper     : Option Keeper
  move       : Option Move
  heir       : Option Port
  term       : Option LineTime
  termDue    : Bool
  fault      : LineFault
  priorDrive : Option Drive
  binding    : Option SlotId
  freeReason : Option FreeReason
  observed   : Level
  readback   : Readback
  statics    : Option Statics
deriving DecidableEq, Repr

/-! ## Interlocks (chapter 3) -/

/-- The rule (X, a, Y, b): X asserting a while Y asserts b is forbidden (R49). -/
structure Rule where
  x : LineId
  a : Level
  y : LineId
  b : Level
deriving DecidableEq, Repr

/-- The origin of a rule, with "added by" for a RUNTIME one (3.1). -/
inductive RuleOrigin where
  | fixed
  | runtime (addedBy : Port)
deriving DecidableEq, Repr

/-- The status of a slot that holds a rule (3.1). -/
inductive RuleStatus where
  | occupied | reserved
deriving DecidableEq, Repr

/-- A slot of the interlock table (3.1). -/
inductive InterlockSlot where
  | empty
  | rule (r : Rule) (status : RuleStatus) (origin : RuleOrigin)
deriving DecidableEq, Repr

/-! ## Claims (chapter 4) -/

/-- What a claim names (4.2): a line, or a group with the lines it stood for when the claim was decided (4.4). -/
inductive Target where
  | line (l : LineId)
  | group (g : GroupId) (lines : List LineId)
deriving DecidableEq, Repr

/-- The urgency of a claim (4.2). -/
inductive ClaimUrgency where
  | normal | priority
deriving DecidableEq, Repr

/-- An entry of the pending list (4.4). -/
structure Entry where
  agent    : Port
  ticket   : TicketId
  target   : Target
  urgency  : ClaimUrgency
  arrival  : LineTime
  deadline : LineTime
  term     : Option Nat
  drive    : Option Drive
deriving DecidableEq, Repr

/-- The drive-applied marker of a GRANTED ticket, with "refused by" (4.3). -/
inductive DriveApplied where
  | yes
  | no (slot : RuleSlot) (line : LineId)
  | notAsked
deriving DecidableEq, Repr

/-- A claim ticket (4.3). -/
inductive Ticket where
  | idle
  | waiting (target : Target)
  | granted (target : Target) (at_ : LineTime) (applied : DriveApplied)
  | expired (target : Target) (at_ : LineTime)
deriving DecidableEq, Repr

/-! ## Watches and notices (chapter 7) -/

/-- Which edges of the filtered level are recorded (7.2). -/
inductive Edge where
  | rise | fall | either
deriving DecidableEq, Repr

/-- A level being timed, when it was first sensed, and when it becomes the filtered level (7.2). -/
structure Candidate where
  level    : Level
  since    : LineTime
  deadline : LineTime
deriving DecidableEq, Repr

/-- The filter that a watch and an active wake watch share (R131, R145). -/
structure Filter where
  filtered  : Level
  candidate : Option Candidate
deriving DecidableEq, Repr

/-- A pending watch's count and stamp (7.2). -/
structure EdgeRecord where
  count : Byte
  stamp : LineTime
deriving DecidableEq, Repr

/-- A watch record (7.2); `pending` is present exactly while the watch is pending. -/
structure Watch where
  line    : LineId
  edge    : Edge
  filter  : Nat
  urgent  : Bool
  view    : Filter
  pending : Option EdgeRecord
deriving DecidableEq, Repr

/-- A wake watch (7.5); `view` is present exactly while it is active. -/
structure WakeWatch where
  line   : LineId
  edge   : Edge
  filter : Nat
  target : Port
  view   : Option Filter
deriving DecidableEq, Repr

/-- The line notices of one line (R136), each with the line time of its first posting, and the lost agent of an
INHERITED one. -/
structure LineNotices where
  faulted   : Option LineTime
  inherited : Option (Port × LineTime)
  termEnded : Option LineTime
deriving DecidableEq, Repr

/-- A halt that is posted (R126), with what each reason carries. -/
inductive HaltReason where
  | interlock (slot : RuleSlot) (line : LineId)
  | fault (line : LineId)
  | aborted
deriving DecidableEq, Repr

/-- A sequence outcome (R126). -/
inductive SeqOutcome where
  | finished (slot : SlotId) (at_ : LineTime)
  | halted (slot : SlotId) (step : Nat) (reason : HaltReason) (at_ : LineTime)
deriving DecidableEq, Repr

/-! ## Sessions (chapter 5) -/

/-- How a port's most recent session ended (5.1). -/
inductive EndCause where
  | none | closed | keepalive | presence | reopened | restart
deriving DecidableEq, Repr

/-- The attention mask (5.1). -/
inductive AttentionMask where
  | all | urgentOnly | none
deriving DecidableEq, Repr

/-- What exists only while a session is OPEN: the optional fields of 5.1, the tickets (R73), the watch records (R135)
and the notice sets (R136). -/
structure Live where
  period   : Nat
  deadline : LineTime
  limit    : Nat
  misses   : Nat
  mask     : AttentionMask
  tickets  : Vector Ticket 4
  watches  : Vector (Option Watch) 16
  lineNotices : Vector LineNotices 48
  outcomes : Vector (Option SeqOutcome) 8
  losses   : Vector (Option (EndCause × LineTime)) 3
deriving DecidableEq, Repr

/-- A session record (5.1): OPEN exactly while `live` is present. -/
structure Session where
  epoch        : BitVec 16
  lastEnd      : EndCause
  configure    : Bool
  priority     : Bool
  presenceUsed : Bool
  live         : Option Live
deriving DecidableEq, Repr

/-! ## Sequences (chapter 6) -/

/-- A step of a sequence (6.1); the hold is in ms. -/
structure SeqStep where
  line  : LineId
  drive : Drive
  hold  : Nat
deriving DecidableEq, Repr

/-- The origin of a stored sequence (6.1). -/
inductive SeqOrigin where
  | profile | runtime
deriving DecidableEq, Repr

/-- A STORED entry of the sequence store (6.1). -/
structure Sequence where
  origin : SeqOrigin
  steps  : List SeqStep
deriving DecidableEq, Repr

/-- Why a HALTING run is to stop (6.3), with the halt line of FAULT. -/
inductive HaltCause where
  | aborted
  | fault (line : LineId)
deriving DecidableEq, Repr

/-- The state of a slot that is not IDLE (6.3). -/
inductive RunPhase where
  | stepping
  | holding (deadline : LineTime)
  | halting (cause : HaltCause)
deriving DecidableEq, Repr

/-- A run in a sequencer slot (6.3); the step counts from 1. -/
structure Run where
  sequence : SeqNumber
  agent    : Port
  step     : Nat
  phase    : RunPhase
deriving DecidableEq, Repr

/-! ## The Profile Loader (chapter 8) -/

/-- The part states (8.5). -/
inductive PartState where
  | starting | ready | degraded
deriving DecidableEq, Repr

/-- Slot A, slot B (8.1). -/
inductive FlashSlot where
  | a | b
deriving DecidableEq, Repr

/-- The spare states (8.3). -/
inductive SpareState where
  | stale | erased | writing | committed | damaged
deriving DecidableEq, Repr

/-- The reasons of R150, in the order of their codes 1 to 11. -/
inductive ImageFault where
  | identifier | marker | length | crc | range | sameLine | group | heir | sequence | fallback | generation
deriving DecidableEq, Repr

/-- The outcome of one slot at the last load (8.3). -/
inductive SlotResult where
  | notRead
  | valid (generation : BitVec 32)
  | invalid (reason : ImageFault) (generation : BitVec 32)
deriving DecidableEq, Repr

/-- A flash request's work (8.3), with the arguments it was accepted with (R161 to R164). -/
inductive FlashWork where
  | read (slot : FlashSlot) (offset length : Nat)
  | erase
  | write (offset : Nat) (data : List Byte)
  | commit
deriving DecidableEq, Repr

/-- The flash operation in progress (8.3), with the line time of its acceptance. -/
structure FlashOp where
  work  : FlashWork
  port  : Port
  began : LineTime
deriving DecidableEq, Repr

/-- The causes of FLASH_FAILED (8.3, R181). -/
inductive FlashFailure where
  | deviceBusy | eraseTimeout | eraseVerify | programTimeout | programVerify
deriving DecidableEq, Repr

/-- A load in progress (R152): when it began, and whether it follows a restart (R158) or a reset (R153). -/
structure LoadRun where
  began   : LineTime
  restart : Bool
deriving DecidableEq, Repr

/-- The Profile Loader's record (8.3). -/
structure Loader where
  partState   : PartState
  loaded      : Option FlashSlot
  generation  : BitVec 32
  spare       : FlashSlot
  spareState  : SpareState
  resultA     : SlotResult
  resultB     : SlotResult
  flashOp     : Option FlashOp
  lastFailure : Option (FlashFailure × LineTime)
  load        : Option LoadRun
deriving DecidableEq, Repr

/-! ## Responses and ports (chapter 9) -/

/-- The outcomes of requests (9.9). -/
inductive ReqOutcome where
  | ok | granted | waiting
  | badFrame | badRequest | badArgument | starting | degraded | noSession | staleSession | absent | noRight
  | notHolder | heldByOther | notFree | alreadyHeld | pinned | lineMoving | lineFaulted | inSequence | hasTerm
  | interlock | noTicket | tooLate | notFound | tableFull | violatedNow | fixedEntry | seqBusy | flashBusy
  | flashFailed | imageInvalid
deriving DecidableEq, Repr

/-- The kinds of notice, in the order of R138. -/
inductive NoticeKind where
  | seqHalted | lineFaulted | lineInherited | watchEdge | agentLost | claimGranted | claimExpired | termEnded
  | seqFinished
deriving DecidableEq, Repr

/-- The content of a notice (table of 7.3), beside its kind and index. -/
inductive NoticeContent where
  | seqHalted (slot : SlotId) (step : Nat) (reason : HaltReason) (at_ : LineTime)
  | lineFaulted (at_ : LineTime)
  | lineInherited (lost : Port) (at_ : LineTime)
  | watchEdge (line : LineId) (count : Byte) (stamp : LineTime) (filtered : Level)
  | agentLost (cause : EndCause) (at_ : LineTime)
  | claimGranted (target : Target) (at_ : LineTime) (applied : DriveApplied)
  | claimExpired (target : Target) (at_ : LineTime)
  | termEnded (at_ : LineTime)
  | seqFinished (slot : SlotId) (at_ : LineTime)
deriving DecidableEq, Repr

/-- A pending notice (7.3). -/
structure Notice where
  kind    : NoticeKind
  index   : Nat
  urgent  : Bool
  content : NoticeContent
deriving DecidableEq, Repr

/-- What SNAPSHOT returns of one line (R43). -/
structure SnapshotEntry where
  observed : Level
  state    : LineState
  holder   : Holder
  drive    : Drive
  fault    : LineFault
deriving DecidableEq, Repr

/-- One entry of LIST_INTERLOCKS (R61). -/
structure InterlockEntry where
  slot   : RuleSlot
  rule   : Rule
  status : RuleStatus
  origin : RuleOrigin
deriving DecidableEq, Repr

/-- The asking port's session, as STATUS reports it (R166). -/
structure OwnSession where
  epoch   : BitVec 16
  lastEnd : EndCause
  open_   : Option (Nat × AttentionMask)
deriving DecidableEq, Repr

/-- What STATUS returns (R166). -/
structure StatusReport where
  partState   : PartState
  loaded      : Option FlashSlot
  generation  : BitVec 32
  spare       : FlashSlot
  spareState  : SpareState
  resultA     : SlotResult
  resultB     : SlotResult
  flashOp     : Option FlashOp
  lastFailure : Option (FlashFailure × LineTime)
  faulted     : List (LineId × Holder)
  own         : OwnSession
  at_         : LineTime
deriving DecidableEq, Repr

/-- The constant facts that IDENTIFY returns (R167). -/
structure Identity where
  vendor             : String
  part               : String
  designRevision     : Nat
  protocolVersion    : Nat
  imageFormat        : Nat
  lines              : Nat
  ports              : Nat
  interlockSlots     : Nat
  pendingEntries     : Nat
  ticketsPerSession  : Nat
  watchesPerSession  : Nat
  wakeWatches        : Nat
  sequences          : Nat
  sequencerSlots     : Nat
  stepsPerSequence   : Nat
  linesPerSet        : Nat
  noticesPerRequest  : Nat
  largestPayload     : Nat
  flashSlotSize      : Nat
deriving DecidableEq, Repr

/-- The results or refusal detail of a response (R179, R181), as data; Machine/Coding.lean gives the bytes. -/
inductive Payload where
  | none
  | frameFault (cause : FrameFault)
  | requestFault (cause : RequestFault)
  | line (l : LineId)
  | interlock (slot : RuleSlot) (line : LineId)
  | imageInvalid (reason : ImageFault) (generations : Option (BitVec 32 × BitVec 32))
  | flashFailed (failure : FlashFailure)
  | opened (epoch : BitVec 16) (lastEnd : EndCause) (configure priority presenceUsed : Bool)
  | closed (epoch : BitVec 16)
  | ticked (at_ : LineTime) (misses : Nat)
  | status (report : StatusReport)
  | identity (facts : Identity) (at_ : LineTime)
  | lineTime (at_ : LineTime)
  | waiting (ticket : TicketId) (arrival : LineTime)
  | snapshot (lines : List SnapshotEntry) (at_ : LineTime)
  | inspect (line : LineId) (record : Line) (remaining : Option Nat) (at_ : LineTime)
  | ruleSlot (slot : RuleSlot)
  | interlocks (fixed : Nat) (entries : List InterlockEntry)
  | sequencerSlot (slot : SlotId)
  | watchAdded (id : WatchId) (filtered : Level) (at_ : LineTime)
  | notices (count : Nat) (more : Bool) (at_ : LineTime) (items : List Notice)
  | acked (cleared skipped : Nat)
  | data (bytes : List Byte)
  | generation (g : BitVec 32)
deriving DecidableEq, Repr

/-- The decision on a request: its outcome and what the response carries. -/
structure Reply where
  outcome : ReqOutcome
  payload : Payload
deriving DecidableEq, Repr

/-- A READY response slot (9.1). -/
structure Response where
  seq       : Byte
  reply     : Reply
  discarded : Bool
  ignored   : Bool
deriving DecidableEq, Repr

/-- An IN_PROCESS request slot (9.1). -/
structure InProcess where
  seq       : Byte
  discarded : Bool
  ignored   : Bool
deriving DecidableEq, Repr

/-- What the transaction in progress is (9.1). -/
inductive Decoder where
  | idle | request | collect | skip
deriving DecidableEq, Repr

/-- The response frame that a collect fixes (R175): kind RESPONSE, NOT_READY or NONE, and the attention flag. -/
inductive CollectFrame where
  | response (r : Response) (attention : Bool)
  | notReady (seq : Byte) (attention : Bool)
  | none (lastSeq : Byte) (attention : Bool)
deriving DecidableEq, Repr

/-- A port record (9.1); an absent request or response is an EMPTY slot. `shifting` is the frame of a collect in
progress. -/
structure PortRecord where
  decoder  : Decoder
  received : Nat
  request  : Option InProcess
  response : Option Response
  lastSeq  : Byte
  shifting : Option CollectFrame
deriving DecidableEq, Repr

/-! ## The whole part -/

/-- The state of the part. -/
structure State where
  lineTime    : LineTime
  resetLow    : Bool
  lines       : Vector Line 48
  interlocks  : Vector InterlockSlot 32
  groups      : Vector (Option (List LineId)) 12
  pendingList : List Entry
  sessions    : Vector Session 3
  store       : Vector (Option Sequence) 8
  slots       : Vector (Option Run) 2
  wakeWatches : List WakeWatch
  wakeOut     : Vector Bool 3
  attention   : Vector Bool 3
  presence    : Vector Bool 3
  loader      : Loader
  ports       : Vector PortRecord 3
  flash       : List Host.Cell
  choices     : Nat
  pending     : List Instr
deriving DecidableEq, Repr

/-- Reasons to stop with a fault: there are none. Every command has an effect in the spec from every state, so no
meaning raises one (log 6). -/
inductive Fault where
deriving DecidableEq, Repr

/-- Reasons to refuse a command. -/
inductive Refusal where
  /-- Raised by exec's arm of a command that has no meaning yet. Safe: the machine stops. -/
  | notModelled (mnemonic : String)
deriving DecidableEq, Repr

/-- A line record at reset (R45, R20), with the level its pad is sensed at. -/
def Line.atReset (observed : Level) : Line :=
  { state := .free, holder := .none, drive := .float, keeper := none, move := none, heir := none, term := none,
    termDue := false, fault := .none, priorDrive := none, binding := none, freeReason := some .start, observed := observed,
    readback := .off, statics := none }

/-- A session record at reset (R90, R91). -/
def Session.atReset : Session :=
  { epoch := 0, lastEnd := .none, configure := false, priority := false, presenceUsed := false, live := none }

/-- A port record at reset (R168). -/
def PortRecord.atReset : PortRecord :=
  { decoder := .idle, received := 0, request := none, response := none, lastSeq := 0, shifting := none }

/-- The Loader's record at reset (R151), with the load that the release of the reset pin begins, if it has. -/
def Loader.atReset (load : Option LoadRun) : Loader :=
  { partState := .starting, loaded := none, generation := 0, spare := .a, spareState := .stale, resultA := .notRead,
    resultB := .notRead, flashOp := none, lastFailure := none, load := load }

/-- The part right after the release of the reset pin: every block at its reset values (R156), line time 0 (R128), and
the load of R152 begun (R151). The observed levels, the presence levels and the flash contents are the board's: 0, low
and erased here, DESIGN CHOICE of logs 1, 2 and 3. -/
def State.reset : State :=
  { lineTime := 0
    resetLow := false
    lines := Vector.replicate 48 (Line.atReset false)
    interlocks := Vector.replicate 32 .empty
    groups := Vector.replicate 12 none
    pendingList := []
    sessions := Vector.replicate 3 Session.atReset
    store := Vector.replicate 8 none
    slots := Vector.replicate 2 none
    wakeWatches := []
    wakeOut := Vector.replicate 3 false
    attention := Vector.replicate 3 false
    presence := Vector.replicate 3 false
    loader := Loader.atReset (some { began := 0, restart := false })
    ports := Vector.replicate 3 PortRecord.atReset
    flash := []
    choices := 0
    pending := [] }

end Sys2Proof.Machine
end

