-- ==== Sys2Proof/Machine/Ops.lean ====
section
/-! DEFINITION. The named operations over the state: time, one accessor and one update per record table, and the flash
bytes. Every meaning reads and writes the state through these. -/

namespace Sys2Proof.Machine

/-! ## Tables of a fixed number of records -/

/-- Every entry of a table changed by `f`. -/
def Table.map {α β : Type} {n : Nat} (f : α → β) (t : Vector α n) : Vector β n := Vector.ofFn fun i => f (t.get i)

/-- The lowest index whose entry passes `p`. -/
def Table.lowest {α : Type} {n : Nat} (t : Vector α n) (p : α → Bool) : Option (Fin n) :=
  (List.finRange n).find? fun i => p (t.get i)

/-! ## Line time (R128, R129) -/

/-- The line time `us` microseconds ahead, wrapping (R129). -/
def State.afterUs (s : State) (us : Nat) : LineTime := s.lineTime + BitVec.ofNat 32 us

/-- The line time `ms` milliseconds ahead: 1 ms is 1,000 µs. -/
def State.afterMs (s : State) (ms : Nat) : LineTime := s.afterUs (ms * 1000)

/-- Line time `t` lies at or after `past`, decided within half the counter's range (0.6, R129). -/
def notBefore (t past : LineTime) : Bool := decide ((t - past).toNat < 2147483648)

/-! ## Line records -/

def State.line (s : State) (l : LineId) : Line := s.lines.get l

def State.setLine (s : State) (l : LineId) (x : Line) : State := { s with lines := s.lines.set l x }

def State.modifyLine (s : State) (l : LineId) (f : Line → Line) : State := s.setLine l (f (s.line l))

/-- One operation on each of a list of lines, in list order. -/
def State.forLines (op : LineId → State → State) : List LineId → State → State
  | [], s => s
  | l :: ls, s => State.forLines op ls (op l s)

/-- The static fields that stand where none are in force: until the first load succeeds (R45). No move is carried out
before then (R8), so nothing the part does rests on them (log 18). -/
def Statics.unset : Statics :=
  { pinned := false, settle := 0, fallback := .float, disposition := .present, defaultHeir := none, group := none }

/-- The static fields in force (R23). -/
def Line.static (ln : Line) : Statics := ln.statics.getD Statics.unset

def Stages.target : Stages → Drive
  | .one t => t
  | .two _ t => t

def Stages.first : Stages → Drive
  | .one t => t
  | .two d _ => d

/-- The line record's target field, a view of the move (R3). -/
def Line.target (ln : Line) : Option Drive := ln.move.map fun m => m.stages.target

/-- The line record's stage field, a view of the move (R3): "1 of 1", "1 of 2" or "2 of 2" as index and length. -/
def Line.stage (ln : Line) : Option (Nat × Nat) :=
  ln.move.map fun m =>
    match m.stages, m.index with
    | .one _, _ => (1, 1)
    | .two _ _, .first => (1, 2)
    | .two _ _, .second => (2, 2)

/-- An agent that is not already the holder, as an heir (R23: heir is never equal to holder). -/
def heirUnless (holder : Port) (heir : Option Port) : Option Port := if heir = some holder then none else heir

/-! ## Interlock slots -/

def State.ruleAt (s : State) (k : RuleSlot) : InterlockSlot := s.interlocks.get k

def State.setRule (s : State) (k : RuleSlot) (x : InterlockSlot) : State :=
  { s with interlocks := s.interlocks.set k x }

/-! ## Session records -/

def State.session (s : State) (n : Port) : Session := s.sessions.get n

def State.setSession (s : State) (n : Port) (x : Session) : State := { s with sessions := s.sessions.set n x }

def State.live (s : State) (n : Port) : Option Live := (s.session n).live

/-- The session of port n is OPEN (R90). -/
def State.isOpen (s : State) (n : Port) : Bool := (s.live n).isSome

/-- The session tag: the low 8 bits of the epoch (5.1). -/
def State.tag (s : State) (n : Port) : Byte := (s.session n).epoch.setWidth 8

/-- A change of what exists only while the session is OPEN; nothing where it is CLOSED. -/
def State.modifyLive (s : State) (n : Port) (f : Live → Live) : State :=
  s.setSession n { s.session n with live := (s.live n).map f }

/-! ## The sequencer -/

def State.run (s : State) (k : SlotId) : Option Run := s.slots.get k

def State.setRun (s : State) (k : SlotId) (r : Option Run) : State := { s with slots := s.slots.set k r }

def State.modifyRun (s : State) (k : SlotId) (f : Run → Run) : State := s.setRun k ((s.run k).map f)

def State.sequence (s : State) (q : SeqNumber) : Option Sequence := s.store.get q

def State.setSequence (s : State) (q : SeqNumber) (x : Option Sequence) : State := { s with store := s.store.set q x }

/-- The steps of a store entry; none where it is EMPTY. -/
def State.steps (s : State) (q : SeqNumber) : List SeqStep := ((s.sequence q).map (·.steps)).getD []

/-- The line set of a store entry: the distinct lines its steps name, in line order (6.1). -/
def State.lineSet (s : State) (q : SeqNumber) : List LineId := ascending ((s.steps q).map (·.line))

/-- A run of some slot uses the entry (R110, R111). -/
def State.inUse (s : State) (q : SeqNumber) : Bool :=
  (List.finRange 2).any fun k => ((s.run k).map (·.sequence)) == some q

/-! ## Ports -/

def State.port (s : State) (n : Port) : PortRecord := s.ports.get n

def State.setPort (s : State) (n : Port) (x : PortRecord) : State := { s with ports := s.ports.set n x }

def State.modifyPort (s : State) (n : Port) (f : PortRecord → PortRecord) : State := s.setPort n (f (s.port n))

/-- A request is in process on the port (R95): its request slot is IN_PROCESS. -/
def State.inProcess (s : State) (n : Port) : Bool := (s.port n).request.isSome

/-! ## The Loader -/

def State.modifyLoader (s : State) (f : Loader → Loader) : State := { s with loader := f s.loader }

def State.partState (s : State) : PartState := s.loader.partState

/-! ## Claims -/

/-- The lines a target stands for (4.2). -/
def Target.lines : Target → List LineId
  | .line l => [l]
  | .group _ ls => ls

/-- An entry is identified by its agent and ticket (R77). -/
def Entry.is (e : Entry) (n : Port) (t : TicketId) : Bool := decide (e.agent = n ∧ e.ticket = t)

/-- R79: the removal of an entry closes the gap and keeps the order of the rest. -/
def State.removeEntry (s : State) (n : Port) (t : TicketId) : State :=
  { s with pendingList := s.pendingList.filter fun e => !e.is n t }

/-- R77: a PRIORITY entry goes after the last PRIORITY entry and before the first NORMAL one, a NORMAL entry at the
end. -/
def insertEntry (e : Entry) (list : List Entry) : List Entry :=
  match e.urgency with
  | .normal => list ++ [e]
  | .priority =>
    list.filter (fun x => x.urgency == .priority) ++ e :: list.filter (fun x => x.urgency == .normal)

/-! ## The flash bytes

A list of (address, byte) pairs, addresses rising, no listed byte equal to FFh, what an unlisted address reads as. -/

/-- The erased value (R147). -/
def erasedByte : Byte := 0xFF

/-- The canonical form from a lowest address on. -/
def Memory.wfFrom (low : Nat) : List Host.Cell → Bool
  | [] => true
  | (a, v) :: rest => decide (low ≤ a) && decide (v ≠ erasedByte) && Memory.wfFrom (a + 1) rest

/-- Memory is in its one canonical form. -/
def Memory.wf (m : List Host.Cell) : Bool := Memory.wfFrom 0 m

/-- One byte of the flash. -/
def Memory.read : List Host.Cell → Nat → Byte
  | [], _ => erasedByte
  | (a, v) :: rest, x => if a = x then v else Memory.read rest x

/-- One byte of the flash written, keeping the canonical form. -/
def Memory.write : List Host.Cell → Nat → Byte → List Host.Cell
  | [], x, v => if v = erasedByte then [] else [(x, v)]
  | (a, w) :: rest, x, v =>
    if x < a then (if v = erasedByte then (a, w) :: rest else (x, v) :: (a, w) :: rest)
    else if x = a then (if v = erasedByte then rest else (x, v) :: rest)
    else (a, w) :: Memory.write rest x v

/-- `length` bytes from an address on. -/
def Memory.readRange (m : List Host.Cell) (from_ length : Nat) : List Byte :=
  (List.range length).map fun i => Memory.read m (from_ + i)

end Sys2Proof.Machine
end

