-- ==== Sys2Proof/Machine/Operands.lean ====
section
/-! DEFINITION. The argument forms of requests: each coded argument of R179, read to its typed value, or none where it
is outside the range its rule gives (BAD_ARGUMENT, R180 step 7). -/

namespace Sys2Proof.Machine

/-- A byte that must be a number below `n`. -/
def numberBelow (n : Nat) (b : Byte) : Option (Fin n) := if h : b.toNat < n then some ⟨b.toNat, h⟩ else none

/-- A line, 0 to 47. -/
def lineArg (b : Byte) : Option LineId := numberBelow 48 b

/-- A level, 0 or 1. -/
def levelArg (b : Byte) : Option Level := if b = 0 then some false else if b = 1 then some true else none

/-- A drive: mode 00h FLOAT, 01h KEEP, 02h SINK, 03h DRIVE, and a level of 0 or 1, which FLOAT ignores (R67, R110).
A FLOAT with a level byte above 1 is refused in SET and in an image as R67 and R110 refuse it in CLAIM and
STORE_SEQUENCE, the model's choice (log 33). -/
def driveArg (d : RawDrive) : Option Drive :=
  (levelArg d.level).bind fun l =>
    if d.mode = 0 then some .float
    else if d.mode = 1 then some (.keep l)
    else if d.mode = 2 then some (.sink l)
    else if d.mode = 3 then some (.drive l)
    else none

/-- CLAIM's optional drive: mode FFh means absent, and the level byte is then ignored (R179). -/
def optionalDriveArg (d : RawDrive) : Option (Option Drive) :=
  if d.mode = 0xFF then some none else (driveArg d).map some

/-- A target as named: a line, or a group number that the profile may not define (R66). -/
inductive NamedTarget where
  | line (l : LineId)
  | group (g : GroupId)
deriving DecidableEq, Repr

/-- A target: 00h line or 01h group, then the number (R179). -/
def targetArg (t : RawTarget) : Option NamedTarget :=
  if t.kind = 0 then (lineArg t.number).map .line
  else if t.kind = 1 then (numberBelow 12 t.number).map .group
  else none

/-- The target that a name stands for, under the groups of the loaded profile; none where it names a group that is not
defined (R28, R68). -/
def State.resolve (s : State) : NamedTarget → Option Target
  | .line l => some (.line l)
  | .group g => (s.groups.get g).map fun ls => .group g ls

/-- An heir: 00h to 02h for agent 0 to 2, FFh for none (R179). -/
def heirArg (b : Byte) : Option (Option Port) := if b = 0xFF then some none else (numberBelow 3 b).map some

/-- CLAIM's urgency: 00h NORMAL, 01h PRIORITY. -/
def claimUrgencyArg (b : Byte) : Option ClaimUrgency :=
  if b = 0 then some .normal else if b = 1 then some .priority else none

/-- A watch's urgency: 00h NORMAL, 01h URGENT. -/
def watchUrgencyArg (b : Byte) : Option Bool := levelArg b

/-- 00h RISE, 01h FALL, 02h EITHER. -/
def edgeArg (b : Byte) : Option Edge :=
  if b = 0 then some .rise else if b = 1 then some .fall else if b = 2 then some .either else none

/-- 00h ALL, 01h URGENT_ONLY, 02h NONE. -/
def maskArg (b : Byte) : Option AttentionMask :=
  if b = 0 then some .all else if b = 1 then some .urgentOnly else if b = 2 then some .none else none

/-- 00h A, 01h B. -/
def flashSlotArg (b : Byte) : Option FlashSlot := if b = 0 then some .a else if b = 1 then some .b else none

/-- A number in an inclusive range (0.6). -/
def within (low high n : Nat) : Option Nat := if low ≤ n ∧ n ≤ high then some n else none

/-- OPEN's arguments: period 10 to 10,000 ms, miss limit 1 to 8, mask (5.4.1). -/
structure OpenArgs where
  period : Nat
  limit  : Nat
  mask   : AttentionMask
deriving DecidableEq, Repr

def openArgs (period : BitVec 16) (limit mask : Byte) : Option OpenArgs :=
  (within 10 10000 period.toNat).bind fun p =>
    (within 1 8 limit.toNat).bind fun m => (maskArg mask).map fun k => { period := p, limit := m, mask := k }

/-- CLAIM's arguments (4.2); a term of 0 is none. -/
structure ClaimArgs where
  target   : NamedTarget
  patience : Nat
  term     : Option Nat
  drive    : Option Drive
  urgency  : ClaimUrgency
deriving DecidableEq, Repr

/-- A term in ms, 0 for none, 1 to 600,000 (4.2, 2.5.1). -/
def termArg (t : BitVec 32) : Option (Option Nat) :=
  if t.toNat = 0 then some none else (within 1 600000 t.toNat).map some

def claimArgs (target : RawTarget) (patience : BitVec 16) (term : BitVec 32) (drive : RawDrive) (urgency : Byte) :
    Option ClaimArgs :=
  (targetArg target).bind fun t =>
    (within 0 60000 patience.toNat).bind fun p =>
      (termArg term).bind fun m =>
        (optionalDriveArg drive).bind fun d =>
          (claimUrgencyArg urgency).map fun u => { target := t, patience := p, term := m, drive := d, urgency := u }

/-- EXTEND's arguments (2.5.1). -/
def extendArgs (target : RawTarget) (term : BitVec 32) : Option (NamedTarget × Option Nat) :=
  (targetArg target).bind fun t => (termArg term).map fun m => (t, m)

/-- Every entry of a list read, or none where one fails. -/
def allArgs {α β : Type} (f : α → Option β) : List α → Option (List β)
  | [] => some []
  | a :: as => (f a).bind fun b => (allArgs f as).map fun bs => b :: bs

/-- SET's list: 1 to 16 entries of distinct lines (2.4.1, R179), put in ascending line order (R29, R30). -/
def setArgs (entries : List RawSetEntry) : Option (List (LineId × Drive)) :=
  if entries.length = 0 ∨ 16 < entries.length then none
  else
    (allArgs (fun e => (lineArg e.line).bind fun l => (driveArg e.drive).map fun d => (l, d)) entries).bind fun es =>
      if (es.map (·.1)).Nodup then some (allLines.filterMap fun l => es.find? fun e => e.1 = l) else none

/-- SET_HEIR's arguments: an heir equal to the requesting agent is refused (R33). -/
def setHeirArgs (requester : Port) (line heir : Byte) : Option (LineId × Option Port) :=
  (lineArg line).bind fun l =>
    (heirArg heir).bind fun h => if h = some requester then none else some (l, h)

/-- ADD_INTERLOCK's arguments: two lines, not the same, and two levels (R59). -/
def ruleArgs (x a y b : Byte) : Option Rule :=
  (lineArg x).bind fun x => (levelArg a).bind fun a => (lineArg y).bind fun y => (levelArg b).bind fun b =>
    if x = y then none else some { x := x, a := a, y := y, b := b }

/-- One step of STORE_SEQUENCE (R110). -/
def stepArg (st : RawStep) : Option SeqStep :=
  (lineArg st.line).bind fun l => (driveArg st.drive).bind fun d =>
    (within 0 60000 st.hold.toNat).map fun h => { line := l, drive := d, hold := h }

/-- STORE_SEQUENCE's arguments: a number, and 1 to 16 steps (R110). -/
def storeArgs (number : Byte) (steps : List RawStep) : Option (SeqNumber × List SeqStep) :=
  (numberBelow 8 number).bind fun q =>
    if steps.length = 0 ∨ 16 < steps.length then none else (allArgs stepArg steps).map fun ss => (q, ss)

/-- ADD_WATCH's arguments (R130). -/
structure WatchArgs where
  line   : LineId
  edge   : Edge
  filter : Nat
  urgent : Bool
deriving DecidableEq, Repr

def watchArgs (line edge : Byte) (filter : BitVec 16) (urgency : Byte) : Option WatchArgs :=
  (lineArg line).bind fun l => (edgeArg edge).bind fun e => (within 0 50000 filter.toNat).bind fun f =>
    (watchUrgencyArg urgency).map fun u => { line := l, edge := e, filter := f, urgent := u }

/-- A notice identifier of ACK: the nine kinds from 01h in the order of R138, each with the indexes of its kind
(7.3). -/
inductive NoticeId where
  | seqHalted (q : SeqNumber)
  | lineFaulted (l : LineId)
  | lineInherited (l : LineId)
  | watchEdge (id : WatchId)
  | agentLost (n : Port)
  | claimGranted (t : TicketId)
  | claimExpired (t : TicketId)
  | termEnded (l : LineId)
  | seqFinished (q : SeqNumber)
deriving DecidableEq, Repr

def noticeIdArg (x : RawNoticeId) : Option NoticeId :=
  if x.kind = 1 then (numberBelow 8 x.index).map .seqHalted
  else if x.kind = 2 then (lineArg x.index).map .lineFaulted
  else if x.kind = 3 then (lineArg x.index).map .lineInherited
  else if x.kind = 4 then (numberBelow 16 x.index).map .watchEdge
  else if x.kind = 5 then (numberBelow 3 x.index).map .agentLost
  else if x.kind = 6 then (numberBelow 4 x.index).map .claimGranted
  else if x.kind = 7 then (numberBelow 4 x.index).map .claimExpired
  else if x.kind = 8 then (lineArg x.index).map .termEnded
  else if x.kind = 9 then (numberBelow 8 x.index).map .seqFinished
  else none

/-- ACK's list: 1 to 20 identifiers (R139). -/
def ackArgs (ids : List RawNoticeId) : Option (List NoticeId) :=
  if ids.length = 0 ∨ 20 < ids.length then none else allArgs noticeIdArg ids

/-- PROFILE_READ's arguments: slot, offset 0 to 4,095, length 1 to 128, the last byte not beyond 4,095 (R164). -/
def readArgs (slot : Byte) (offset : BitVec 16) (length : Byte) : Option FlashWork :=
  (flashSlotArg slot).bind fun f => (within 0 4095 offset.toNat).bind fun o => (within 1 128 length.toNat).bind fun n =>
    if o + n ≤ 4096 then some (.read f o n) else none

/-- PROFILE_WRITE's arguments: offset 0 to 4,095, 1 to 128 bytes, the last not beyond 4,095 (R162). -/
def writeArgs (offset : BitVec 16) (data : List Byte) : Option FlashWork :=
  (within 0 4095 offset.toNat).bind fun o => (within 1 128 data.length).bind fun n =>
    if o + n ≤ 4096 then some (.write o data) else none

end Sys2Proof.Machine
end

