-- ==== Sys2Proof/Machine/Flags.lean ====
section
/-! DEFINITION. The pending notices of a session in presentation order, the attention outputs computed from them, the
filters and edges of watches, and the wake outputs (chapter 7). -/

namespace Sys2Proof.Machine

/-! ## Notices (R136, R138) -/

/-- The line notices of one kind, in line order. -/
def Live.lineNoticeItems (v : Live) (item : LineId → LineNotices → Option Notice) : List Notice :=
  allLines.filterMap fun l => item l (v.lineNotices.get l)

/-- The pending SEQ_HALTED notices, by ascending number (7.3). -/
def Live.seqHaltedItems (v : Live) : List Notice :=
  (List.finRange 8).filterMap fun q =>
    match v.outcomes.get q with
    | some (.halted slot step reason t) => some ⟨.seqHalted, q, true, .seqHalted slot step reason t⟩
    | some (.finished _ _) => none
    | none => none

/-- The pending LINE_FAULTED notices, by ascending line (7.3). -/
def Live.faultedItems (v : Live) : List Notice :=
  v.lineNoticeItems fun l x => x.faulted.map fun t => ⟨.lineFaulted, l, true, .lineFaulted t⟩

/-- The pending LINE_INHERITED notices, by ascending line (7.3). -/
def Live.inheritedItems (v : Live) : List Notice :=
  v.lineNoticeItems fun l x => x.inherited.map fun p => ⟨.lineInherited, l, true, .lineInherited p.1 p.2⟩

/-- The pending WATCH_EDGE notices of one urgency, by ascending id (R132). -/
def Live.watchItems (v : Live) (urgent : Bool) : List Notice :=
  (List.finRange 16).filterMap fun id =>
    match v.watches.get id with
    | none => none
    | some w =>
      if w.urgent = urgent then
        w.pending.map fun r => ⟨.watchEdge, id, urgent, .watchEdge w.line r.count r.stamp w.view.filtered⟩
      else none

/-- The pending AGENT_LOST notices, by ascending port (R106). -/
def Live.lossItems (v : Live) : List Notice :=
  (List.finRange 3).filterMap fun n =>
    (v.losses.get n).map fun p => ⟨.agentLost, n, false, .agentLost p.1 p.2⟩

/-- The pending CLAIM_GRANTED notices, by ascending ticket (R74). -/
def Live.grantedItems (v : Live) : List Notice :=
  (List.finRange 4).filterMap fun t =>
    match v.tickets.get t with
    | .granted target time applied => some ⟨.claimGranted, t, false, .claimGranted target time applied⟩
    | .idle => none
    | .waiting _ => none
    | .expired _ _ => none

/-- The pending CLAIM_EXPIRED notices, by ascending ticket (R75). -/
def Live.expiredItems (v : Live) : List Notice :=
  (List.finRange 4).filterMap fun t =>
    match v.tickets.get t with
    | .expired target time => some ⟨.claimExpired, t, false, .claimExpired target time⟩
    | .idle => none
    | .waiting _ => none
    | .granted _ _ _ => none

/-- The pending TERM_ENDED notices, by ascending line (R36). -/
def Live.termEndedItems (v : Live) : List Notice :=
  v.lineNoticeItems fun l x => x.termEnded.map fun t => ⟨.termEnded, l, false, .termEnded t⟩

/-- The pending SEQ_FINISHED notices, by ascending number (R118). -/
def Live.seqFinishedItems (v : Live) : List Notice :=
  (List.finRange 8).filterMap fun q =>
    match v.outcomes.get q with
    | some (.finished slot t) => some ⟨.seqFinished, q, false, .seqFinished slot t⟩
    | some (.halted _ _ _ _) => none
    | none => none

/-- The urgent notices of a session in the order of R138. -/
def Live.urgentNotices (v : Live) : List Notice :=
  v.seqHaltedItems ++ v.faultedItems ++ v.inheritedItems ++ v.watchItems true

/-- The notices of normal urgency in the order of R138. -/
def Live.normalNotices (v : Live) : List Notice :=
  v.watchItems false ++ v.lossItems ++ v.grantedItems ++ v.expiredItems ++ v.termEndedItems ++ v.seqFinishedItems

/-- The pending notices of a session in presentation order (R138). -/
def Live.pendingNotices (v : Live) : List Notice := v.urgentNotices ++ v.normalNotices

/-! ## Attention outputs (R142) -/

/-- Some pending notice passes the mask (R142). -/
def Live.alerts (v : Live) : Bool :=
  match v.mask with
  | .all => !v.pendingNotices.isEmpty
  | .urgentOnly => !v.urgentNotices.isEmpty
  | .none => false

/-- What R142 asks of attention output n: the session is OPEN and some pending notice passes its mask. -/
def State.attentionDue (s : State) (n : Port) : Bool :=
  match s.live n with
  | none => false
  | some v => v.alerts

/-- R142: attention output n is re-evaluated. -/
def State.reattend (s : State) (n : Port) : State := { s with attention := s.attention.set n (s.attentionDue n) }

/-- A change of port n's notices, tickets, watches or mask, with the re-evaluation of its attention output (R142). -/
def State.modifyNotices (s : State) (n : Port) (f : Live → Live) : State := (s.modifyLive n f).reattend n

/-- R136: a line notice is posted; an entry already pending keeps its first line time. -/
def State.postLine (s : State) (n : Port) (l : LineId) (f : LineNotices → LineNotices) : State :=
  s.modifyNotices n fun v => { v with lineNotices := v.lineNotices.set l (f (v.lineNotices.get l)) }

/-- R15: (line, FAULTED). -/
def State.postFaulted (s : State) (n : Port) (l : LineId) : State :=
  s.postLine n l fun x => { x with faulted := x.faulted <|> some s.lineTime }

/-- R39: (line, INHERITED), with the lost agent. -/
def State.postInherited (s : State) (n : Port) (l : LineId) (lost : Port) : State :=
  s.postLine n l fun x => { x with inherited := x.inherited <|> some (lost, s.lineTime) }

/-- R36: (line, TERM_ENDED). -/
def State.postTermEnded (s : State) (n : Port) (l : LineId) : State :=
  s.postLine n l fun x => { x with termEnded := x.termEnded <|> some s.lineTime }

/-- R126, R136: a sequence outcome is posted and replaces one of the same number. -/
def State.postOutcome (s : State) (n : Port) (q : SeqNumber) (out : SeqOutcome) : State :=
  s.modifyNotices n fun v => { v with outcomes := v.outcomes.set q (some out) }

/-- R106: AGENT_LOST for port `lost` is posted to port n and replaces an entry for the same port. -/
def State.postLoss (s : State) (n lost : Port) (cause : EndCause) : State :=
  s.modifyNotices n fun v => { v with losses := v.losses.set lost (some (cause, s.lineTime)) }

def Live.setTicket (v : Live) (t : TicketId) (x : Ticket) : Live := { v with tickets := v.tickets.set t x }

def State.setTicket (s : State) (n : Port) (t : TicketId) (x : Ticket) : State :=
  s.modifyNotices n fun v => v.setTicket t x

/-! ## Filters and edges (R131, R132, R145) -/

/-- A change from 0 to 1 matches RISE and EITHER, one from 1 to 0 FALL and EITHER (R132). -/
def Edge.matches : Edge → Level → Bool
  | .rise, new => new
  | .fall, new => !new
  | .either, _ => true

/-- R131: what an observed-level change to `new` does to a filter, and the beginning of the edge where the filtered
level changes at once. -/
def Filter.levelChange (f : Filter) (time : Nat) (new : Level) (now : LineTime) : Filter × Option LineTime :=
  if new = f.filtered then ({ f with candidate := none }, none)
  else if time = 0 then ({ filtered := new, candidate := none }, some now)
  else ({ f with candidate := some { level := new, since := now, deadline := now + BitVec.ofNat 32 time } }, none)

/-- R131: the filter deadline is due at line time `now`. -/
def Filter.due (f : Filter) (now : LineTime) : Bool :=
  match f.candidate with
  | none => false
  | some c => decide (c.deadline = now)

/-- R131: the candidate becomes the filtered level, with the beginning of the edge. -/
def Filter.take (f : Filter) : Filter × Option LineTime :=
  match f.candidate with
  | none => (f, none)
  | some c => ({ filtered := c.level, candidate := none }, some c.since)

/-- R132: the count and stamp after a matching edge that began at `t`: count 1 and the edge's beginning where the watch
was not pending, one more, to 255 at most, where it was. -/
def EdgeRecord.next (pending : Option EdgeRecord) (t : LineTime) : EdgeRecord :=
  match pending with
  | none => { count := 1, stamp := t }
  | some r => { r with count := if r.count = 255 then 255 else r.count + 1 }

/-- R132: a change of the filtered level that began at `began`, tested against the watch's edge. -/
def Watch.edgeTaken (w : Watch) (began : Option LineTime) : Watch :=
  match began with
  | none => w
  | some t =>
    if w.edge.matches w.view.filtered then { w with pending := some (EdgeRecord.next w.pending t) } else w

/-- R131, R132: an observed-level change delivered to a watch record. -/
def Watch.levelChange (w : Watch) (new : Level) (now : LineTime) : Watch :=
  let p := w.view.levelChange w.filter new now
  ({ w with view := p.1 } : Watch).edgeTaken p.2

/-- R131, R132: the filter deadline of a watch record. -/
def Watch.take (w : Watch) : Watch :=
  let p := w.view.take
  ({ w with view := p.1 } : Watch).edgeTaken p.2

/-- R131: the change delivered to every watch record of a session that names the line. -/
def Live.levelChange (v : Live) (l : LineId) (new : Level) (now : LineTime) : Live :=
  { v with watches := Table.map (fun x => x.map fun w => if w.line = l then w.levelChange new now else w) v.watches }

/-! ## Wake watches (R143 to R146) -/

/-- R144: a wake watch becomes active, seeded from its line's observed level. -/
def State.seedWake (s : State) (w : WakeWatch) : WakeWatch :=
  { w with view := some { filtered := (s.line w.line).observed, candidate := none } }

/-- R144: the wake watches that target port n become active. -/
def State.activateWakes (s : State) (n : Port) : State :=
  { s with wakeWatches := s.wakeWatches.map fun w => if w.target = n then s.seedWake w else w }

/-- R144: the wake watches that target port n become inactive. -/
def State.deactivateWakes (s : State) (n : Port) : State :=
  { s with wakeWatches := s.wakeWatches.map fun w => if w.target = n then { w with view := none } else w }

def State.setWakeOut (s : State) (n : Port) (b : Bool) : State := { s with wakeOut := s.wakeOut.set n b }

/-- R145: what a delivery does to one active wake watch: the watch afterwards, and whether its wake output rises. -/
def WakeWatch.deliver (w : WakeWatch) (change : Filter → Filter × Option LineTime) : WakeWatch × Bool :=
  match w.view with
  | none => (w, false)
  | some f =>
    let p := change f
    ({ w with view := some p.1 }, p.2.isSome && w.edge.matches p.1.filtered)

/-- R145: the deliveries to a list of wake watches, raising the wake outputs of those whose edge matches. -/
def deliverWakes (change : WakeWatch → Filter → Filter × Option LineTime) (out : Vector Bool 3) :
    List WakeWatch → List WakeWatch × Vector Bool 3
  | [] => ([], out)
  | w :: ws =>
    let p := w.deliver (change w)
    let rest := deliverWakes change (if p.2 then out.set w.target true else out) ws
    (p.1 :: rest.1, rest.2)

end Sys2Proof.Machine
end

