-- ==== Sys2Proof/Machine/Interlock.lean ====
section
/-! DEFINITION. What lines assert, and the Interlock Checker's two questions: is a rule matched, and is a proposed
drive change admitted (R1, R50, R51, R52, R65). -/

namespace Sys2Proof.Machine

/-- What the pad does steadily in a drive (R1). -/
inductive PadAction where
  | highImpedance
  | strong (level : Level)
  | weakHold (level : Level)
deriving DecidableEq, Repr

/-- R1: what the pad does while it stays in its drive. The weak keeper holds the level of the strong drive of its entry,
or the level that a stronger driver imposes (log 24). -/
def Line.pad (ln : Line) : PadAction :=
  match ln.drive with
  | .float => .highImpedance
  | .sink false => .strong false
  | .sink true => .highImpedance
  | .keep l => .weakHold ((ln.keeper.map (·.level)).getD l)
  | .drive l => .strong l

/-- R1: the level that the pad drives strongly at the moment it is commanded from one drive to a KEEP drive. A command
to the drive it has makes no strong drive. -/
def Drive.entryLevel (present commanded : Drive) : Option Level :=
  match commanded with
  | .keep l => if present = commanded then none else some l
  | .float => none
  | .sink _ => none
  | .drive _ => none

/-- R1: the pad is commanded to drive `d` at line time `now`. A command to the drive that it has changes nothing; a KEEP
drive is entered with a strong drive, from which its keeper holds the level. -/
def Line.command (ln : Line) (d : Drive) (now : LineTime) : Line :=
  { ln with
    drive := d
    keeper := if ln.drive = d then ln.keeper
              else (ln.drive.entryLevel d).map fun l => { level := l, drivenAt := now } }

/-- R1: the keeper of a KEEP drive holds the level that the pad is at, whatever imposes it (log 24). -/
def Line.followed (ln : Line) : Line :=
  { ln with keeper := ln.keeper.map fun k => { k with level := ln.observed } }

/-- R1, R2: the pad is sensed at a level, and the keeper of a KEEP drive follows it. -/
def Line.sensed (ln : Line) (level : Level) : Line := ({ ln with observed := level } : Line).followed

/-- R1: the asserted level of a drive. -/
def Drive.asserted : Drive → Option Level
  | .drive l => some l
  | .keep l => some l
  | .sink false => some false
  | .sink true => none
  | .float => none

/-- R12: the drives in which a HELD line is checked: DRIVE 0, DRIVE 1 and SINK 0. -/
def Drive.checked : Drive → Bool
  | .drive _ => true
  | .sink false => true
  | _ => false

/-- A set of levels of one line: empty, one level or both (R50). -/
structure Levels where
  zero : Bool
  one  : Bool
deriving DecidableEq, Repr

def Levels.empty : Levels := { zero := false, one := false }

def Levels.ofAsserted : Option Level → Levels
  | none => Levels.empty
  | some false => { zero := true, one := false }
  | some true => { zero := false, one := true }

def Levels.union (p q : Levels) : Levels := { zero := p.zero || q.zero, one := p.one || q.one }

def Levels.has (p : Levels) : Level → Bool
  | false => p.zero
  | true => p.one

/-- What a drive alone contributes (R51). -/
def Drive.levels (d : Drive) : Levels := Levels.ofAsserted d.asserted

/-- R51: the drive's asserted level, the target's while a move is in progress, and the origin's during its first
stage. -/
def Line.levels (ln : Line) : Levels :=
  match ln.move with
  | none => ln.drive.levels
  | some m =>
    (ln.drive.levels.union m.stages.target.levels).union ((m.origin.map Drive.levels).getD Levels.empty)

/-- The assertion set (R51). -/
def State.assertion (s : State) (l : LineId) : Levels := (s.line l).levels

/-- R50: a rule is matched when the set of X contains a and the set of Y contains b. -/
def Rule.matchedBy (r : Rule) (sets : LineId → Levels) : Bool := (sets r.x).has r.a && (sets r.y).has r.b

/-- The rule names the line (R50). -/
def Rule.names (r : Rule) (l : LineId) : Bool := decide (r.x = l ∨ r.y = l)

/-- R52: the hypothetical set of line x going to drive d: the asserted level of its present drive together with that
of d; the other lines as they stand. -/
def State.hypothetical (s : State) (x : LineId) (d : Drive) (l : LineId) : Levels :=
  if l = x then (s.line x).drive.levels.union d.levels else s.assertion l

/-- R52: d adds a level to x's set. -/
def Drive.addsTo (d present : Drive) : Bool := decide (d.asserted ≠ none ∧ d.asserted ≠ present.asserted)

/-- R52: the rule of a slot refuses line x going to drive d. A RESERVED rule that the assertion set already matches is
left out where d adds no level. -/
def InterlockSlot.refuses (slot : InterlockSlot) (s : State) (x : LineId) (d : Drive) : Bool :=
  match slot with
  | .empty => false
  | .rule r status _ =>
    r.names x && r.matchedBy (s.hypothetical x d) &&
      !(decide (status = .reserved) && !d.addsTo (s.line x).drive && r.matchedBy s.assertion)

/-- R52: admission of line x going to drive d: none where it is admitted, else the lowest-numbered matching slot. -/
def State.admission (s : State) (x : LineId) (d : Drive) : Option RuleSlot :=
  Table.lowest s.interlocks fun slot => slot.refuses s x d

/-- R65: a RESERVED slot whose rule the set no longer matches becomes OCCUPIED. -/
def InterlockSlot.settle (slot : InterlockSlot) (sets : LineId → Levels) : InterlockSlot :=
  match slot with
  | .rule r .reserved origin => if r.matchedBy sets then slot else .rule r .occupied origin
  | .rule _ .occupied _ => slot
  | .empty => slot

/-- R65, at an event that shrinks the assertion set. -/
def State.settleReserved (s : State) : State :=
  { s with interlocks := Table.map (fun slot => slot.settle s.assertion) s.interlocks }

/-- The slot holds a rule of origin FIXED (R60). -/
def InterlockSlot.isFixed : InterlockSlot → Bool
  | .rule _ _ .fixed => true
  | .rule _ _ (.runtime _) => false
  | .empty => false

def InterlockSlot.isEmpty : InterlockSlot → Bool
  | .empty => true
  | .rule _ _ _ => false

end Sys2Proof.Machine
end

