-- ==== Sys2Proof/Machine/Moves.lean ====
section
/-! DEFINITION. The Drive Unit (chapter 1): building and starting moves, abandoning them, the readback check's states;
and the proposals of several changes at one event (R53). -/

namespace Sys2Proof.Machine

/-- R4: the stages of a move from drive `p` to target `t`. -/
def Drive.stagesTo (p t : Drive) : Stages :=
  match t, p with
  | .drive l, .drive _ => .one (.drive l)
  | .drive l, .keep l' => if l' = l then .one (.drive l) else .two (.keep l) (.drive l)
  | .drive l, .sink _ => .two (.keep l) (.drive l)
  | .drive l, .float => .two (.keep l) (.drive l)
  | .float, .drive l' => .two (.keep l') .float
  | t, _ => .one t

/-- R13: the line enters the checked condition, where it is HELD in a checked drive (R12). -/
def State.enterChecked (s : State) (l : LineId) : State :=
  let ln := s.line l
  if ln.state = .held ∧ ln.drive.checked then
    s.setLine l { ln with readback :=
      if ln.drive.asserted = some ln.observed then .armed else .counting (s.afterUs ln.static.settle) }
  else s

/-- R13: what an observed-level change, already entered, does to the line's readback check. -/
def Line.checkLevel (ln : Line) (deadline : LineTime) : Line :=
  match ln.readback with
  | .off => ln
  | .armed => if ln.drive.asserted = some ln.observed then ln else { ln with readback := .counting deadline }
  | .counting _ => if ln.drive.asserted = some ln.observed then { ln with readback := .armed } else ln

/-- R9: a move in progress is abandoned; the pad keeps the drive of the stage reached. -/
def State.abandon (s : State) (l : LineId) : State :=
  match (s.line l).move with
  | none => s
  | some _ => (s.modifyLine l fun ln => { ln with move := none }).settleReserved

/-- R6: the first stage of a move begins on a line with no move: the pad and drive field take the stage's drive, the
deadline, target and stage are set, the readback check is OFF, and the origin is recorded (R51). -/
def State.beginMove (s : State) (l : LineId) (kind : MoveKind) (stages : Stages) : State :=
  s.modifyLine l fun ln =>
    { ln.command stages.first s.lineTime with
      readback := .off
      move := some { kind := kind, stages := stages, index := .first, deadline := s.afterUs ln.static.settle,
                     origin := some ln.drive } }

/-- R4, R5, R10, R11: a move to target `t` is started. An ORDINARY move to the present drive is no move. -/
def State.startMove (s : State) (l : LineId) (kind : MoveKind) (t : Drive) : State :=
  let s := s.abandon l
  let p := (s.line l).drive
  if kind = .ordinary ∧ t = p then s else s.beginMove l kind (p.stagesTo t)

/-- R30, R116: an ORDINARY move of a HELD line to drive `d`: the line becomes MOVING, or stays as it is where `d` is
its present drive. -/
def State.driveTo (s : State) (l : LineId) (d : Drive) : State :=
  if (s.line l).drive = d then s
  else (s.startMove l .ordinary d).modifyLine l fun ln => { ln with state := .moving }

/-- R53, all or nothing: each change put to admission in the order given, each admitted one entered before the next is
tested; the first refusal gives its slot and line. -/
def State.driveAll (s : State) : List (LineId × Drive) → Except (RuleSlot × LineId) State
  | [] => .ok s
  | (l, d) :: rest =>
    match s.admission l d with
    | some slot => .error (slot, l)
    | none => State.driveAll (s.driveTo l d) rest

/-- R56: the fallback drive, or FLOAT where admission refuses it (float substitution). -/
def State.fallbackOrFloat (s : State) (l : LineId) : Drive :=
  let fallback := (s.line l).static.fallback
  if (s.admission l fallback).isNone then fallback else .float

/-- R32: the target of a release, chosen by the line's release disposition. -/
def State.releaseTarget (s : State) (l : LineId) : Drive :=
  match (s.line l).static.disposition with
  | .present => (s.line l).drive
  | .fallback => s.fallbackOrFloat l

/-- R32, R36, R40: the line leaves its holder for RELEASING, with the reason given, and its RELEASE move starts. -/
def State.beginRelease (s : State) (l : LineId) (reason : FreeReason) (t : Drive) : State :=
  (s.modifyLine l fun ln =>
    { ln with state := .releasing, holder := .none, freeReason := some reason, term := none, termDue := false,
              fault := .none, priorDrive := none, heir := ln.static.defaultHeir }).startMove l .release t

/-- R22, R48: a line with no holder is moved to FLOAT at the end of a restart's load. -/
def State.floatLine (l : LineId) (s : State) : State :=
  (s.modifyLine l fun ln => { ln with state := .releasing, freeReason := some .restart }).startMove l .release .float

end Sys2Proof.Machine
end

