-- ==== Sys2Proof/Machine/Sequencer.lean ====
section
/-! DEFINITION. The Sequencer's shared work (chapter 6): beginning steps, holds, halts and the end of a run. -/

namespace Sys2Proof.Machine

/-- R118, R119, R120, R122: every line bound to the slot is unbound. The bound lines of a slot are the line set of its
run (R113). -/
def State.unbind (s : State) (k : SlotId) : State :=
  { s with lines := Table.map (fun ln => if ln.binding = some k then { ln with binding := none } else ln) s.lines }

/-- R123, R125: the run of a slot ends with no notice. -/
def State.dropRun (s : State) (k : SlotId) : State := (s.unbind k).setRun k none

/-- R119, R120, R121, R122: the run of a slot halts, and SEQ_HALTED is posted to its agent's session (R126). -/
def State.haltRun (s : State) (k : SlotId) (reason : HaltReason) : State :=
  match s.run k with
  | none => s
  | some r => (s.dropRun k).postOutcome r.agent r.sequence (.halted k r.step reason s.lineTime)

/-- R118: the run of a slot has finished, and SEQ_FINISHED is posted to its agent's session (R126). -/
def State.finishRun (s : State) (k : SlotId) : State :=
  match s.run k with
  | none => s
  | some r => (s.dropRun k).postOutcome r.agent r.sequence (.finished k s.lineTime)

def State.setPhase (s : State) (k : SlotId) (p : RunPhase) : State := s.modifyRun k fun r => { r with phase := p }

/-- R116 to R119: step number `n` and the steps after it begin, in the list given, until one moves its line, holds, or
is refused; after the last the run has finished. A hold of 0 ms ends at the event at which it begins (R118). -/
def State.beginSteps (k : SlotId) : List SeqStep → Nat → State → State
  | [], _, s => s.finishRun k
  | st :: rest, n, s =>
    let s := s.modifyRun k fun r => { r with step := n }
    match s.admission st.line st.drive with
    | some slot => s.haltRun k (.interlock slot st.line)
    | none =>
      if (s.line st.line).drive = st.drive then
        if st.hold = 0 then State.beginSteps k rest (n + 1) s
        else s.setPhase k (.holding (s.afterMs st.hold))
      else (s.driveTo st.line st.drive).setPhase k .stepping

/-- R118: the hold of the step in progress ends; the next step begins, or the run has finished. -/
def State.endHold (s : State) (k : SlotId) : State :=
  match s.run k with
  | none => s
  | some r => State.beginSteps k ((s.steps r.sequence).drop r.step) (r.step + 1) s

/-- R117: the hold of the step in progress begins. -/
def State.beginHold (s : State) (k : SlotId) (r : Run) : State :=
  let hold := (((s.steps r.sequence)[r.step - 1]?).map (·.hold)).getD 0
  if hold = 0 then s.endHold k else s.setPhase k (.holding (s.afterMs hold))

/-- The reason that SEQ_HALTED carries for a HALTING slot (R122). -/
def HaltCause.reason : HaltCause → HaltReason
  | .aborted => .aborted
  | .fault l => .fault l

/-- R117, R122: the step's move has ended on its line. -/
def State.stepMoveEnded (s : State) (k : SlotId) : State :=
  match s.run k with
  | none => s
  | some r =>
    match r.phase with
    | .stepping => s.beginHold k r
    | .halting cause => s.haltRun k cause.reason
    | .holding _ => s

/-- R120: a readback fault has struck line `l`, bound to the slot. -/
def State.faultOnBound (s : State) (k : SlotId) (l : LineId) : State :=
  match s.run k with
  | none => s
  | some r =>
    match r.phase with
    | .holding _ => s.haltRun k (.fault l)
    | .stepping => s.setPhase k (.halting (.fault l))
    | .halting _ => s

end Sys2Proof.Machine
end

