-- ==== Sys2Proof/Machine/LineTable.lean ====
section
/-! DEFINITION. The Line Table's and the Claim Arbiter's shared work (chapters 2 and 4): grants, the scan of the pending
list, term expiry, the completion of moves, faults and the holder-loss disposition. -/

namespace Sys2Proof.Machine

/-! ## Grants (R27, R69, R80, R81) -/

/-- R27: what a grant writes into one line record, and the check of a line left HELD. -/
def State.grantLine (agent : Port) (term : Option Nat) (l : LineId) (s : State) : State :=
  (s.modifyLine l fun ln =>
    { ln with state := .held, holder := .agent agent, freeReason := none,
              heir := heirUnless agent ln.static.defaultHeir, term := term.map s.afterMs,
              termDue := false }).enterChecked l

/-- R27: a grant of a list of lines, with no drive. -/
def State.grantLines (s : State) (agent : Port) (term : Option Nat) (ls : List LineId) : State :=
  State.forLines (State.grantLine agent term) ls s

/-- The initial drive of a claim, proposed for every line of its target in ascending line order (R54). -/
def proposals (ls : List LineId) (d : Drive) : List (LineId × Drive) := (ascending ls).map fun l => (l, d)

/-- Every line of the list is FREE. -/
def State.allFree (s : State) (ls : List LineId) : Bool := ls.all fun l => decide ((s.line l).state = .free)

/-- R81, step 2: the initial drive of an entry whose lines have been granted: the state and the ticket's marker. -/
def State.applyInitial (s : State) (e : Entry) : State × DriveApplied :=
  match e.drive with
  | none => (s, .notAsked)
  | some d =>
    match s.driveAll (proposals e.target.lines d) with
    | .ok s' => (s', .yes)
    | .error (slot, l) => (s, .no slot l)

/-- R81: the grant of an entry at a scan. -/
def State.grantEntry (s : State) (e : Entry) : State :=
  let p := (s.grantLines e.agent e.term e.target.lines).applyInitial e
  (p.1.removeEntry e.agent e.ticket).setTicket e.agent e.ticket (.granted e.target s.lineTime p.2)

/-- R80: the walk over the entries, in list order. -/
def State.scanEntries : List Entry → State → State
  | [], s => s
  | e :: rest, s => State.scanEntries rest (if s.allFree e.target.lines then s.grantEntry e else s)

/-- R80: the scan that a line's arrival at FREE prompts. -/
def State.scan (s : State) : State := State.scanEntries s.pendingList s

/-! ## Terms and completions (R25, R26, R36) -/

/-- R36: the term of a line expires: it is released as by RELEASE with free_reason TERM_ENDED, and TERM_ENDED is
posted to the former holder's session. -/
def State.expire (s : State) (l : LineId) : State :=
  let released := s.beginRelease l .termEnded (s.releaseTarget l)
  match (s.line l).holder with
  | .agent n => released.postTermEnded n l
  | .profile => released
  | .none => released

/-- R25, R26: the completion of a move, already removed, is taken by the Line Table. -/
def State.completeMove (s : State) (l : LineId) : State :=
  match (s.line l).state with
  | .moving =>
    if (s.line l).termDue then s.expire l
    else
      let s := (s.modifyLine l fun ln => { ln with state := .held }).enterChecked l
      match (s.line l).binding with
      | none => s
      | some k => s.stepMoveEnded k
  | .releasing => (s.modifyLine l fun ln => { ln with state := .free }).scan
  | .free => s
  | .held => s

/-- R6, R7: the second stage of a move begins at the end of the first. -/
def State.secondStage (s : State) (l : LineId) (m : Move) : State :=
  (s.modifyLine l fun ln =>
    { ln.command m.stages.target s.lineTime with
      move := some { m with index := .second, deadline := s.afterUs ln.static.settle,
                            origin := none } }).settleReserved

/-- R7: the stage in progress of move `m` ends. -/
def State.endStage (s : State) (l : LineId) (m : Move) : State :=
  match m.stages, m.index with
  | .two _ _, .first => s.secondStage l m
  | .two _ _, .second => ((s.modifyLine l fun ln => { ln with move := none }).settleReserved).completeMove l
  | .one _, _ => ((s.modifyLine l fun ln => { ln with move := none }).settleReserved).completeMove l

/-! ## Readback faults (R14, R15) -/

/-- R14: the pad and the record at a readback fault. -/
def State.faultLine (s : State) (l : LineId) : State :=
  (s.modifyLine l fun ln =>
    { ln.command .float s.lineTime with
      priorDrive := some ln.drive, fault := .readback, readback := .off }).settleReserved

/-- R15: the fault is passed on to the holder's session. -/
def State.tellHolder (s : State) (l : LineId) : State :=
  match (s.line l).holder with
  | .agent n => s.postFaulted n l
  | .profile => s
  | .none => s

/-- R15: the fault is passed on to the Sequencer. -/
def State.tellSequencer (s : State) (l : LineId) : State :=
  match (s.line l).binding with
  | none => s
  | some k => s.faultOnBound k l

/-- R14, R15: the readback check fires. -/
def State.fireReadback (s : State) (l : LineId) : State := ((s.faultLine l).tellHolder l).tellSequencer l

/-! ## Holder loss (R38, R39, R40) -/

/-- R39: the heir of a line that is eligible when agent `lost` is lost. -/
def State.eligibleHeir (s : State) (lost : Port) (l : LineId) : Option Port :=
  match (s.line l).heir with
  | none => none
  | some h => if h ≠ lost ∧ s.isOpen h then some h else none

/-- R39: an eligible heir inherits the line; one that was MOVING enters the checked condition. -/
def State.inherit_ (s : State) (lost heir : Port) (l : LineId) (wasMoving : Bool) : State :=
  let s := s.modifyLine l fun ln =>
    { ln with state := .held, holder := .agent heir, heir := none, term := none, termDue := false }
  (if wasMoving then s.enterChecked l else s).postInherited heir l lost

/-- R40: the line is parked at its fallback, whatever its release disposition. -/
def State.park (s : State) (l : LineId) : State := s.beginRelease l .lost (s.fallbackOrFloat l)

/-- R38, step 1: the run that binds the line halts with no notice (R123). -/
def State.haltLost (s : State) (l : LineId) : State :=
  match (s.line l).binding with
  | none => s
  | some k => s.dropRun k

/-- R38, steps 1 to 4, for one line, if the lost agent holds it. -/
def State.dispose (lost : Port) (l : LineId) (s : State) : State :=
  if (s.line l).holder = .agent lost then
    let wasMoving := decide ((s.line l).state = .moving)
    let s := (s.haltLost l).abandon l
    match s.eligibleHeir lost l with
    | some heir => s.inherit_ lost heir l wasMoving
    | none => s.park l
  else s

/-- R38: the holder-loss disposition, in ascending line order. -/
def State.disposeAll (s : State) (lost : Port) : State := State.forLines (State.dispose lost) allLines s

end Sys2Proof.Machine
end

