-- ==== Sys2Proof/Machine/SessionOps.lean ====
section
/-! DEFINITION. The Session Monitor's shared work (chapter 5): keepalive, opening a session and ending one. -/

namespace Sys2Proof.Machine

/-- R93: the miss count becomes 0 and the period deadline a whole period ahead. -/
def State.keepalive (s : State) (n : Port) : State :=
  s.modifyLive n fun v => { v with misses := 0, deadline := s.afterMs v.period }

/-- R87: the agent's entries leave the pending list. -/
def State.dropEntries (s : State) (n : Port) : State :=
  { s with pendingList := s.pendingList.filter fun e => decide (e.agent ≠ n) }

/-- R105: the record becomes CLOSED with its end cause; the tickets (R87), watch records (R135) and notice sets (R141)
of the session are gone with it, and attention output n is low (R142). -/
def State.closeRecord (s : State) (n : Port) (cause : EndCause) : State :=
  (s.setSession n { s.session n with lastEnd := cause, live := none }).reattend n

/-- R106: AGENT_LOST is posted to every other session that is OPEN. -/
def State.tellLoss (s : State) (lost : Port) (cause : EndCause) : State :=
  (List.finRange 3).foldl (fun s n => if n ≠ lost ∧ s.isOpen n then s.postLoss n lost cause else s) s

/-- R105: the session of port n ends with a cause other than RESTART; nothing where it is CLOSED. -/
def State.endSession (s : State) (n : Port) (cause : EndCause) : State :=
  if s.isOpen n then
    (((s.disposeAll n).dropEntries n).activateWakes n).tellLoss n cause |>.closeRecord n cause
  else s

/-- R98: the epoch after an OPEN; from 65,535 it goes to 1. -/
def nextEpoch (e : BitVec 16) : BitVec 16 := if e = 65535 then 1 else e + 1

def LineNotices.empty : LineNotices := { faulted := none, inherited := none, termEnded := none }

/-- R98: what exists of a session when it is opened: four IDLE tickets, empty notice sets, no watch. -/
def Live.fresh (period : Nat) (deadline : LineTime) (limit : Nat) (mask : AttentionMask) : Live :=
  { period := period, deadline := deadline, limit := limit, misses := 0, mask := mask,
    tickets := Vector.replicate 4 .idle, watches := Vector.replicate 16 none,
    lineNotices := Vector.replicate 48 LineNotices.empty, outcomes := Vector.replicate 8 none,
    losses := Vector.replicate 3 none }

/-- R98: a session is opened on a CLOSED port. -/
def State.openRecord (s : State) (n : Port) (period limit : Nat) (mask : AttentionMask) : State :=
  let opened := s.setSession n
    { s.session n with epoch := nextEpoch (s.session n).epoch,
                       live := some (Live.fresh period (s.afterMs period) limit mask) }
  ((opened.setWakeOut n false).deactivateWakes n).reattend n

end Sys2Proof.Machine
end

