-- ==== Sys2Proof/Machine/Request.lean ====
section
/-! DEFINITION. Taking a request (R171 to R174) and the common checks (R180), once for every request. -/

namespace Sys2Proof.Machine

/-- What deciding a request gives: a reply at once, or a flash request accepted and now in process (R172). -/
inductive Verdict where
  | done (s : State) (r : Reply)
  | accepted (s : State)

def Reply.of (outcome : ReqOutcome) (payload : Payload) : Reply := { outcome := outcome, payload := payload }

/-- An outcome with no payload. -/
def Reply.bare (outcome : ReqOutcome) : Reply := Reply.of outcome .none

/-- In which part states a request is served (the table of R155). -/
inductive Service where
  | always
  | exceptStarting
  | readyOnly
deriving DecidableEq, Repr

/-- R155: the refusal of the part-state check. -/
def Service.refusal : Service → PartState → Option ReqOutcome
  | .always, _ => none
  | .exceptStarting, .starting => some .starting
  | .exceptStarting, .ready => none
  | .exceptStarting, .degraded => none
  | .readyOnly, .starting => some .starting
  | .readyOnly, .ready => none
  | .readyOnly, .degraded => some .degraded

/-- How the session and tag checks read a request (R92): OPEN is exempt; STATUS and IDENTIFY are exempt and a keepalive
where the tag matches; every other request must pass them. -/
inductive SessionRule where
  | required
  | exempt
  | exemptKeepalive
deriving DecidableEq, Repr

/-- A right that the request needs (R91). -/
inductive Right where
  | none
  | configure
  | priority
deriving DecidableEq, Repr

def Session.has (x : Session) : Right → Bool
  | .none => true
  | .configure => x.configure
  | .priority => x.priority

/-- R180, steps 6 and 7, then the owning block's decision. -/
def authorise {α : Type} (h : Header) (right : Right) (args : Option α) (body : α → State → Verdict) (s : State) :
    Verdict :=
  if (s.session h.port).has right then
    match args with
    | none => .done s (Reply.bare .badArgument)
    | some a => body a s
  else .done s (Reply.bare .noRight)

/-- R180, steps 3 to 7, with the keepalive that passing step 5 gives (R93). -/
def checked {α : Type} (h : Header) (service : Service) (rule : SessionRule) (right : Right) (args : Option α)
    (body : α → State → Verdict) (s : State) : Verdict :=
  match service.refusal s.partState with
  | some o => .done s (Reply.bare o)
  | none =>
    match rule with
    | .exempt => authorise h right args body s
    | .exemptKeepalive =>
      authorise h right args body (if s.isOpen h.port ∧ h.tag = s.tag h.port then s.keepalive h.port else s)
    | .required =>
      if s.isOpen h.port then
        if h.tag = s.tag h.port then authorise h right args body (s.keepalive h.port)
        else .done s (Reply.bare .staleSession)
      else .done s (Reply.bare .noSession)

/-- The port can begin a transaction: the reset pin is high (R168) and select was released (9.2). -/
def State.accepts (s : State) (n : Port) : Bool := !s.resetLow && decide ((s.port n).decoder = .idle)

/-- R173: a request transaction that arrives while a request is in process is ignored. -/
def State.ignoreFrame (s : State) (n : Port) : State :=
  s.modifyPort n fun p =>
    { p with decoder := .skip, received := 1, request := p.request.map fun r => { r with ignored := true } }

/-- R172, step 1, and the sequence number: the frame is taken, a READY response is discarded. A frame that fails the
frame check writes no sequence number. -/
def State.takeFrame (s : State) (n : Port) (received : Nat) (seq : Option Byte) : State :=
  s.modifyPort n fun p =>
    { p with decoder := .request, received := received, response := none, lastSeq := seq.getD p.lastSeq }

/-- R172: the response is placed in the response slot. -/
def State.place (s : State) (n : Port) (seq : Byte) (r : Reply) (discarded ignored : Bool) : State :=
  s.modifyPort n fun p =>
    { p with response := some { seq := seq, reply := r, discarded := discarded, ignored := ignored } }

/-- R172, step 3: the port after the decision. -/
def Verdict.settle (v : Verdict) (h : Header) (discarded : Bool) : State :=
  match v with
  | .done s r => s.place h.port h.seq r discarded false
  | .accepted s =>
    s.modifyPort h.port fun p => { p with request := some { seq := h.seq, discarded := discarded, ignored := false } }

/-- R171 to R174: a complete frame of `length` payload bytes arrives on a port. It is ignored inside a transaction
that already has its frame (R171) and while a request is in process (R173); otherwise it is taken and decided. -/
def State.serve (s : State) (h : Header) (length : Nat) (judge : State → Verdict) : State :=
  if s.accepts h.port then
    if s.inProcess h.port then s.ignoreFrame h.port
    else
      (judge (s.takeFrame h.port (7 + length) (some h.seq))).settle h (s.port h.port).response.isSome
  else s

end Sys2Proof.Machine
end

