-- ==== Sys2Proof/Machine/Claims.lean ====
section
/-! DEFINITION. CLAIM, CANCEL and PATIENCE_DEADLINE (chapter 4). -/

namespace Sys2Proof.Machine

/-- The lowest line of a target, in ascending line order, whose record fails a test (R28). -/
def State.firstFailing (s : State) (ls : List LineId) (test : Line → Bool) : Option LineId :=
  (ascending ls).find? fun l => !test (s.line l)

/-- The record tests of a rule, each applied to every line before the next (R28): the first outcome and line. -/
def State.firstRefusal (s : State) (ls : List LineId) : List (ReqOutcome × (Line → Bool)) → Option Reply
  | [] => none
  | (outcome, test) :: rest =>
    match s.firstFailing ls test with
    | some l => some (Reply.of outcome (.line l))
    | none => State.firstRefusal s ls rest

/-- The line is held by the agent. -/
def Line.heldBy (ln : Line) (n : Port) : Bool := decide (ln.holder = .agent n)

/-- R68, tests 2 and 3. -/
def claimTests (n : Port) : List (ReqOutcome × (Line → Bool)) :=
  [(.pinned, fun ln => !ln.static.pinned), (.alreadyHeld, fun ln => !ln.heldBy n)]

/-- R69: every line of the target is FREE: granted at this event, or refused where the initial drive is. -/
def State.grantNow (s : State) (n : Port) (t : Target) (a : ClaimArgs) : Verdict :=
  let granted := s.grantLines n a.term t.lines
  match a.drive with
  | none => .done granted (Reply.of .granted (.lineTime s.lineTime))
  | some d =>
    match granted.driveAll (proposals t.lines d) with
    | .ok s' => .done s' (Reply.of .granted (.lineTime s.lineTime))
    | .error (slot, l) => .done s (Reply.of .interlock (.interlock slot l))

/-- R70: refused, for some line is not FREE and the claim may not wait. -/
def State.claimRefusal (s : State) (t : Target) : Reply :=
  match s.firstFailing t.lines fun ln => decide (ln.holder = .none) with
  | some l => Reply.of .heldByOther (.line l)
  | none =>
    match s.firstFailing t.lines fun ln => decide (ln.state = .free) with
    | some l => Reply.of .notFree (.line l)
    | none => Reply.bare .notFree

/-- R71: the lowest IDLE ticket of the session. -/
def State.idleTicket (s : State) (n : Port) : Option TicketId :=
  (s.live n).bind fun v => Table.lowest v.tickets fun t => decide (t = .idle)

/-- R71, R77: the entry of a claim that waits. -/
def waitingEntry (n : Port) (ticket : TicketId) (t : Target) (a : ClaimArgs) (now deadline : LineTime) : Entry :=
  { agent := n, ticket := ticket, target := t, urgency := a.urgency, arrival := now, deadline := deadline,
    term := a.term, drive := a.drive }

/-- R71: the claim takes a ticket and joins the pending list, or is refused NO_TICKET. -/
def State.claimWaits (s : State) (n : Port) (t : Target) (a : ClaimArgs) : Verdict :=
  match s.idleTicket n with
  | none => .done s (Reply.bare .noTicket)
  | some k =>
    let e := waitingEntry n k t a s.lineTime (s.afterMs a.patience)
    let joined := { s with pendingList := insertEntry e s.pendingList }
    .done (joined.setTicket n k (.waiting t)) (Reply.of .waiting (.waiting k s.lineTime))

/-- R68 to R71: the request-specific part of CLAIM. -/
def decideClaim (n : Port) (a : ClaimArgs) (s : State) : Verdict :=
  match s.resolve a.target with
  | none => .done s (Reply.bare .notFound)
  | some t =>
    match s.firstRefusal t.lines (claimTests n) with
    | some r => .done s r
    | none =>
      if s.allFree t.lines then s.grantNow n t a
      else if a.patience = 0 then .done s (s.claimRefusal t)
      else s.claimWaits n t a

/-- R67, R91: the right that a claim needs. -/
def claimRight (urgency : Byte) : Right := if urgency = 1 then .priority else .none

/-- CLAIM (R67 to R72). -/
def execClaim (h : Header) (target : RawTarget) (patience : BitVec 16) (term : BitVec 32) (drive : RawDrive)
    (urgency : Byte) (s : State) : Host.Outcome State Fault Refusal :=
  .next (s.serve h 11 (checked h .readyOnly .required (claimRight urgency)
    (claimArgs target patience term drive urgency) (decideClaim h.port)))

/-- A ticket of port n; IDLE where no session is open. -/
def State.ticket (s : State) (n : Port) (t : TicketId) : Ticket := ((s.live n).map fun v => v.tickets.get t).getD .idle

/-- R76: the request-specific part of CANCEL. -/
def decideCancel (n : Port) (t : TicketId) (s : State) : Verdict :=
  match s.ticket n t with
  | .waiting _ => .done ((s.removeEntry n t).setTicket n t .idle) (Reply.bare .ok)
  | .granted _ _ _ => .done s (Reply.bare .tooLate)
  | .expired _ _ => .done (s.setTicket n t .idle) (Reply.bare .ok)
  | .idle => .done s (Reply.bare .notFound)

/-- CANCEL (R76). -/
def execCancel (h : Header) (ticket : Byte) (s : State) : Host.Outcome State Fault Refusal :=
  .next (s.serve h 1 (checked h .readyOnly .required .none (numberBelow 4 ticket) (decideCancel h.port)))

/-- R84: the entry of a ticket whose patience deadline is reached at this line time. -/
def State.patienceDue (s : State) (n : Port) (t : TicketId) : Option Entry :=
  s.pendingList.find? fun e => e.is n t && decide (e.deadline = s.lineTime)

/-- R84: the entry is removed and its ticket becomes EXPIRED with the line time of the deadline. -/
def State.expireEntry (s : State) (e : Entry) : State :=
  (s.removeEntry e.agent e.ticket).setTicket e.agent e.ticket (.expired e.target s.lineTime)

/-- PATIENCE_DEADLINE (R84). It acts where the entry is present and its deadline reached (log 6). -/
def execPatienceDeadline (n : Port) (t : TicketId) (s : State) : Host.Outcome State Fault Refusal :=
  .next (match s.patienceDue n t with
    | none => s
    | some e => s.expireEntry e)

end Sys2Proof.Machine
end

