-- ==== Sys2Proof/Machine/LineEvents.lean ====
section
/-! DEFINITION. The events of lines: OBSERVED_LEVEL_CHANGE, STAGE_END, READBACK_DEADLINE and TERM_DEADLINE (chapters 1
and 2). The three deadlines act where the deadline is present and reached (log 6). -/

namespace Sys2Proof.Machine

/-- R1, R2, R13: the observed field, the keeper and the readback check at an observed-level change. -/
def State.senseLine (s : State) (l : LineId) (level : Level) : State :=
  s.modifyLine l fun ln => (ln.sensed level).checkLevel (s.afterUs ln.static.settle)

/-- R131: the change delivered to port n's watch records, whose notices may change (R142). -/
def State.watchLine (s : State) (l : LineId) (level : Level) (n : Port) : State :=
  s.modifyNotices n fun v => v.levelChange l level s.lineTime

/-- R145: the change delivered to the active wake watches of the line. -/
def State.wakeLine (s : State) (l : LineId) (level : Level) : State :=
  let p := deliverWakes (fun w f => if w.line = l then f.levelChange w.filter level s.lineTime else (f, none))
    s.wakeOut s.wakeWatches
  { s with wakeWatches := p.1, wakeOut := p.2 }

/-- R2: an observed-level change is delivered to the record and its check, to the watches and to the wake watches. -/
def State.observe (s : State) (l : LineId) (level : Level) : State :=
  ((List.finRange 3).foldl (fun s n => s.watchLine l level n) (s.senseLine l level)).wakeLine l level

/-- OBSERVED_LEVEL_CHANGE (R2, R13, R131, R145). Nothing is sensed while the reset pin is low (R20), and a level equal
to the one observed is no change. -/
def execObservedLevelChange (l : LineId) (level : Level) (s : State) : Host.Outcome State Fault Refusal :=
  .next (if s.resetLow ∨ (s.line l).observed = level then s else s.observe l level)

/-- R7: the move of a line whose stage ends at this line time. -/
def State.stageDue (s : State) (l : LineId) : Option Move :=
  (s.line l).move.bind fun m => if m.deadline = s.lineTime then some m else none

/-- STAGE_END (R7). -/
def execStageEnd (l : LineId) (s : State) : Host.Outcome State Fault Refusal :=
  .next (match s.stageDue l with
    | none => s
    | some m => s.endStage l m)

/-- R14: the readback deadline of a line is reached at this line time. -/
def State.readbackDue (s : State) (l : LineId) : Bool := decide ((s.line l).readback = .counting s.lineTime)

/-- READBACK_DEADLINE (R14, R15). -/
def execReadbackDeadline (l : LineId) (s : State) : Host.Outcome State Fault Refusal :=
  .next (if s.readbackDue l then s.fireReadback l else s)

/-- R35: the term deadline of a HELD or MOVING line is reached at this line time and has not been taken. -/
def State.termIsDue (s : State) (l : LineId) : Bool :=
  decide ((s.line l).term = some s.lineTime ∧ (s.line l).termDue = false ∧
    ((s.line l).state = .held ∨ (s.line l).state = .moving))

/-- R35: a HELD line expires at once; a MOVING one is marked term_due. -/
def State.reachTerm (s : State) (l : LineId) : State :=
  match (s.line l).state with
  | .held => s.expire l
  | .moving => s.modifyLine l fun ln => { ln with termDue := true }
  | .free => s
  | .releasing => s

/-- TERM_DEADLINE (R35, R36). -/
def execTermDeadline (l : LineId) (s : State) : Host.Outcome State Fault Refusal :=
  .next (if s.termIsDue l then s.reachTerm l else s)

end Sys2Proof.Machine
end

