-- ==== Sys2Proof/Machine/LineRequests.lean ====
section
/-! DEFINITION. The requests on lines: RELEASE, SET, SET_HEIR, EXTEND, CLEAR_FAULT, SNAPSHOT and INSPECT (chapters 1
and 2). -/

namespace Sys2Proof.Machine

def notHolderTest (n : Port) : ReqOutcome × (Line → Bool) := (.notHolder, fun ln => ln.heldBy n)

def lineMovingTest : ReqOutcome × (Line → Bool) := (.lineMoving, fun ln => decide (ln.state ≠ .moving))

def lineFaultedTest : ReqOutcome × (Line → Bool) := (.lineFaulted, fun ln => decide (ln.fault = .none))

def inSequenceTest : ReqOutcome × (Line → Bool) := (.inSequence, fun ln => decide (ln.binding = none))

/-- R32: one line of a RELEASE. -/
def State.releaseLine (l : LineId) (s : State) : State := s.beginRelease l .released (s.releaseTarget l)

/-- R31, R32: the request-specific part of RELEASE. -/
def decideRelease (n : Port) (target : NamedTarget) (s : State) : Verdict :=
  match s.resolve target with
  | none => .done s (Reply.bare .notFound)
  | some t =>
    match s.firstRefusal t.lines [notHolderTest n, lineMovingTest, inSequenceTest] with
    | some r => .done s r
    | none => .done (State.forLines State.releaseLine (ascending t.lines) s) (Reply.bare .ok)

/-- RELEASE (R31, R32). -/
def execRelease (h : Header) (target : RawTarget) (s : State) : Host.Outcome State Fault Refusal :=
  .next (s.serve h 2 (checked h .readyOnly .required .none (targetArg target) (decideRelease h.port)))

/-- R29, R30: the request-specific part of SET; the entries are in ascending line order. -/
def decideSet (n : Port) (entries : List (LineId × Drive)) (s : State) : Verdict :=
  match s.firstRefusal (entries.map (·.1)) [notHolderTest n, lineMovingTest, lineFaultedTest, inSequenceTest] with
  | some r => .done s r
  | none =>
    match s.driveAll entries with
    | .ok s' => .done s' (Reply.bare .ok)
    | .error (slot, l) => .done s (Reply.of .interlock (.interlock slot l))

/-- SET (R29, R30). -/
def execSet (h : Header) (entries : List RawSetEntry) (s : State) : Host.Outcome State Fault Refusal :=
  .next (s.serve h (3 * entries.length) (checked h .readyOnly .required .none (setArgs entries) (decideSet h.port)))

/-- R33: the request-specific part of SET_HEIR. -/
def decideSetHeir (n : Port) (a : LineId × Option Port) (s : State) : Verdict :=
  if (s.line a.1).heldBy n then .done (s.modifyLine a.1 fun ln => { ln with heir := a.2 }) (Reply.bare .ok)
  else .done s (Reply.of .notHolder (.line a.1))

/-- SET_HEIR (R33). -/
def execSetHeir (h : Header) (line heir : Byte) (s : State) : Host.Outcome State Fault Refusal :=
  .next (s.serve h 2 (checked h .readyOnly .required .none (setHeirArgs h.port line heir) (decideSetHeir h.port)))

/-- R34: one line of an EXTEND: the term is measured from the request, or removed. -/
def State.extendLine (term : Option Nat) (l : LineId) (s : State) : State :=
  s.modifyLine l fun ln => { ln with term := term.map s.afterMs, termDue := false }

/-- R34: the request-specific part of EXTEND. -/
def decideExtend (n : Port) (a : NamedTarget × Option Nat) (s : State) : Verdict :=
  match s.resolve a.1 with
  | none => .done s (Reply.bare .notFound)
  | some t =>
    match s.firstRefusal t.lines [notHolderTest n, inSequenceTest] with
    | some r => .done s r
    | none => .done (State.forLines (State.extendLine a.2) (ascending t.lines) s) (Reply.bare .ok)

/-- EXTEND (R34). -/
def execExtend (h : Header) (target : RawTarget) (term : BitVec 32) (s : State) : Host.Outcome State Fault Refusal :=
  .next (s.serve h 6 (checked h .readyOnly .required .none (extendArgs target term) (decideExtend h.port)))

/-- R19: the fault is cleared and the move back to the prior drive starts. -/
def State.restore (s : State) (l : LineId) (prior : Drive) : State :=
  (s.modifyLine l fun ln => { ln with fault := .none, priorDrive := none }).driveTo l prior

/-- R18, R19: the request-specific part of CLEAR_FAULT. -/
def decideClearFault (n : Port) (l : LineId) (s : State) : Verdict :=
  if (s.line l).heldBy n then
    match (s.line l).fault, (s.line l).priorDrive with
    | .readback, some prior =>
      match (s.line l).binding with
      | some _ => .done s (Reply.of .inSequence (.line l))
      | none =>
        match s.admission l prior with
        | some slot => .done s (Reply.of .interlock (.interlock slot l))
        | none => .done (s.restore l prior) (Reply.bare .ok)
    | .readback, none => .done s (Reply.bare .notFound)
    | .none, _ => .done s (Reply.bare .notFound)
  else .done s (Reply.of .notHolder (.line l))

/-- CLEAR_FAULT (R18, R19). -/
def execClearFault (h : Header) (line : Byte) (s : State) : Host.Outcome State Fault Refusal :=
  .next (s.serve h 1 (checked h .readyOnly .required .none (lineArg line) (decideClearFault h.port)))

/-- R43: what SNAPSHOT returns of one line. -/
def Line.snapshot (ln : Line) : SnapshotEntry :=
  { observed := ln.observed, state := ln.state, holder := ln.holder, drive := ln.drive, fault := ln.fault }

/-- R43: the request-specific part of SNAPSHOT. -/
def decideSnapshot (s : State) : Verdict :=
  .done s (Reply.of .ok (.snapshot (allLines.map fun l => (s.line l).snapshot) s.lineTime))

/-- SNAPSHOT (R43). -/
def execSnapshot (h : Header) (s : State) : Host.Outcome State Fault Refusal :=
  .next (s.serve h 0 (checked h .readyOnly .required .none (some ()) fun _ => decideSnapshot))

/-- R44: the time remaining on a term, in ms rounded up; 0 where term_due is yes, absent where no term is set. -/
def Line.remaining (ln : Line) (now : LineTime) : Option Nat :=
  ln.term.map fun t => if ln.termDue then 0 else ((t - now).toNat + 999) / 1000

/-- R44: the request-specific part of INSPECT. -/
def decideInspect (l : LineId) (s : State) : Verdict :=
  .done s (Reply.of .ok (.inspect l (s.line l) ((s.line l).remaining s.lineTime) s.lineTime))

/-- INSPECT (R44). -/
def execInspect (h : Header) (line : Byte) (s : State) : Host.Outcome State Fault Refusal :=
  .next (s.serve h 1 (checked h .readyOnly .required .none (lineArg line) decideInspect))

end Sys2Proof.Machine
end

