-- ==== Sys2Proof/Machine/Sequences.lean ====
section
/-! DEFINITION. STORE_SEQUENCE, DROP_SEQUENCE, RUN, ABORT and HOLD_DEADLINE (chapter 6). -/

namespace Sys2Proof.Machine

/-- The origin of a store entry; none where it is EMPTY. -/
def State.originOf (s : State) (q : SeqNumber) : Option SeqOrigin := (s.sequence q).map (·.origin)

/-- R110: the request-specific part of STORE_SEQUENCE. -/
def decideStore (a : SeqNumber × List SeqStep) (s : State) : Verdict :=
  if s.originOf a.1 = some .profile then .done s (Reply.bare .fixedEntry)
  else if s.inUse a.1 then .done s (Reply.bare .seqBusy)
  else .done (s.setSequence a.1 (some { origin := .runtime, steps := a.2 })) (Reply.bare .ok)

/-- STORE_SEQUENCE (R110). -/
def execStoreSequence (h : Header) (number : Byte) (steps : List RawStep) (s : State) :
    Host.Outcome State Fault Refusal :=
  .next (s.serve h (1 + 5 * steps.length)
    (checked h .readyOnly .required .configure (storeArgs number steps) decideStore))

/-- R111: the request-specific part of DROP_SEQUENCE. -/
def decideDropSequence (q : SeqNumber) (s : State) : Verdict :=
  match s.originOf q with
  | none => .done s (Reply.bare .notFound)
  | some .profile => .done s (Reply.bare .fixedEntry)
  | some .runtime =>
    if s.inUse q then .done s (Reply.bare .seqBusy) else .done (s.setSequence q none) (Reply.bare .ok)

/-- DROP_SEQUENCE (R111). -/
def execDropSequence (h : Header) (number : Byte) (s : State) : Host.Outcome State Fault Refusal :=
  .next (s.serve h 1 (checked h .readyOnly .required .configure (numberBelow 8 number) decideDropSequence))

/-- R114, tests 3 and 4. -/
def runTests (n : Port) : List (ReqOutcome × (Line → Bool)) :=
  [notHolderTest n, lineMovingTest, lineFaultedTest, (.hasTerm, fun ln => decide (ln.term = none)), inSequenceTest]

/-- R113: slot 0 where it is IDLE, else slot 1 where that is. -/
def State.idleSlot (s : State) : Option SlotId := Table.lowest s.slots fun r => decide (r = none)

/-- R115, step 2: the lines of a line set are bound to the slot. -/
def State.bind (s : State) (k : SlotId) (ls : List LineId) : State :=
  State.forLines (fun l s => s.modifyLine l fun ln => { ln with binding := some k }) ls s

/-- R115: the run starts: the slot is taken, the lines bound, and step 1 begins. -/
def State.startRun (s : State) (n : Port) (q : SeqNumber) (k : SlotId) : State :=
  let taken := s.setRun k (some { sequence := q, agent := n, step := 1, phase := .stepping })
  let bound := taken.bind k (s.lineSet q)
  State.beginSteps k (s.steps q) 1 bound

/-- R114, R115: the request-specific part of RUN. -/
def decideRun (n : Port) (q : SeqNumber) (s : State) : Verdict :=
  match s.sequence q with
  | none => .done s (Reply.bare .notFound)
  | some _ =>
    match s.idleSlot with
    | none => .done s (Reply.bare .seqBusy)
    | some k =>
      match s.firstRefusal (s.lineSet q) (runTests n) with
      | some r => .done s r
      | none => .done (s.startRun n q k) (Reply.of .ok (.sequencerSlot k))

/-- RUN (R114, R115). -/
def execRun (h : Header) (number : Byte) (s : State) : Host.Outcome State Fault Refusal :=
  .next (s.serve h 1 (checked h .readyOnly .required .none (numberBelow 8 number) (decideRun h.port)))

/-- R121: the request-specific part of ABORT. -/
def decideAbort (n : Port) (k : SlotId) (s : State) : Verdict :=
  match s.run k with
  | none => .done s (Reply.bare .notFound)
  | some r =>
    if r.agent = n then
      match r.phase with
      | .stepping => .done (s.setPhase k (.halting .aborted)) (Reply.bare .ok)
      | .holding _ => .done (s.haltRun k .aborted) (Reply.bare .ok)
      | .halting _ => .done s (Reply.bare .ok)
    else .done s (Reply.bare .notHolder)

/-- ABORT (R121). -/
def execAbort (h : Header) (slot : Byte) (s : State) : Host.Outcome State Fault Refusal :=
  .next (s.serve h 1 (checked h .readyOnly .required .none (numberBelow 2 slot) (decideAbort h.port)))

/-- R118: the hold deadline of a HOLDING slot is reached at this line time. -/
def State.holdDue (s : State) (k : SlotId) : Bool :=
  match s.run k with
  | none => false
  | some r => decide (r.phase = .holding s.lineTime)

/-- HOLD_DEADLINE (R118). It acts where the deadline is present and reached (log 6). -/
def execHoldDeadline (k : SlotId) (s : State) : Host.Outcome State Fault Refusal :=
  .next (if s.holdDue k then s.endHold k else s)

end Sys2Proof.Machine
end

