-- ==== Sys2Proof/Machine/Sessions.lean ====
section
/-! DEFINITION. The session commands: OPEN, CLOSE, TICK, SET_MASK, PERIOD_DEADLINE and PRESENCE_FALL (chapter 5). -/

namespace Sys2Proof.Machine

/-- The presence input of port n is sensed at a level (R97, log 2). -/
def State.sense (s : State) (n : Port) (level : Level) : State := { s with presence := s.presence.set n level }

/-- R98: the response to an OPEN, with the last end cause as it stood before. -/
def State.openReply (s : State) (n : Port) : Reply :=
  let x := s.session n
  Reply.of .ok (.opened (nextEpoch x.epoch) x.lastEnd x.configure x.priority x.presenceUsed)

/-- R97, R98, R99: the request-specific part of OPEN. An open session is first ended with cause REOPENED. -/
def decideOpen (n : Port) (a : OpenArgs) (s : State) : Verdict :=
  if (s.session n).presenceUsed ∧ s.presence.get n = false then .done s (Reply.bare .absent)
  else
    let closed := s.endSession n .reopened
    .done (closed.openRecord n a.period a.limit a.mask) (closed.openReply n)

/-- OPEN (R97 to R99). -/
def execOpen (h : Header) (period : BitVec 16) (limit mask : Byte) (sensed : Level) (s : State) :
    Host.Outcome State Fault Refusal :=
  .next ((s.sense h.port sensed).serve h 4
    (checked h .exceptStarting .exempt .none (openArgs period limit mask) (decideOpen h.port)))

/-- R100: CLOSE ends the session with cause CLOSED and returns its epoch. -/
def decideClose (n : Port) (s : State) : Verdict :=
  .done (s.endSession n .closed) (Reply.of .ok (.closed (s.session n).epoch))

/-- CLOSE (R100). -/
def execClose (h : Header) (s : State) : Host.Outcome State Fault Refusal :=
  .next (s.serve h 0 (checked h .exceptStarting .required .none (some ()) fun _ => decideClose h.port))

/-- R101: the miss count as it stood before the keepalive of this request. -/
def State.misses (s : State) (n : Port) : Nat := ((s.live n).map (·.misses)).getD 0

/-- TICK (R101): the response carries the miss count as it stood before the keepalive set it to 0. -/
def execTick (h : Header) (s : State) : Host.Outcome State Fault Refusal :=
  .next (s.serve h 0 (checked h .exceptStarting .required .none (some ()) fun _ t =>
    .done t (Reply.of .ok (.ticked s.lineTime (s.misses h.port)))))

/-- R102: the mask becomes the value given and the attention output is re-evaluated. -/
def decideSetMask (n : Port) (mask : AttentionMask) (s : State) : Verdict :=
  .done (s.modifyNotices n fun v => { v with mask := mask }) (Reply.bare .ok)

/-- SET_MASK (R102). -/
def execSetMask (h : Header) (mask : Byte) (s : State) : Host.Outcome State Fault Refusal :=
  .next (s.serve h 1 (checked h .readyOnly .required .none (maskArg mask) (decideSetMask h.port)))

/-- R94: the period deadline of port n's OPEN session is reached at this line time. -/
def State.periodDue (s : State) (n : Port) : Bool :=
  match s.live n with
  | none => false
  | some v => decide (v.deadline = s.lineTime)

/-- R94, R95: a period deadline is passed without a miss while a request is in process on the port; otherwise a miss
is counted, and at the limit the session ends with cause KEEPALIVE. -/
def State.passPeriod (s : State) (n : Port) : State :=
  let next := fun (v : Live) => { v with deadline := v.deadline + BitVec.ofNat 32 (v.period * 1000) }
  match s.live n with
  | none => s
  | some v =>
    if s.inProcess n then s.modifyLive n next
    else if v.misses + 1 < v.limit then s.modifyLive n fun v => next { v with misses := v.misses + 1 }
    else s.endSession n .keepalive

/-- PERIOD_DEADLINE (R94). It acts where the deadline is present and reached (log 6). -/
def execPeriodDeadline (n : Port) (s : State) : Host.Outcome State Fault Refusal :=
  .next (if s.periodDue n then s.passPeriod n else s)

/-- R178: the port at a fall of its presence: a transaction in progress is skipped, both slots become EMPTY, the last
sequence taken is kept. -/
def PortRecord.cleared (p : PortRecord) (midFrame : Bool) : PortRecord :=
  { p with decoder := if p.decoder = .idle ∧ midFrame = false then .idle else .skip,
           request := none, response := none, shifting := none }

/-- R103, R178: a fall of presence on a port that uses it clears the port in READY and ends an OPEN session with cause
PRESENCE; presence is not acted on in STARTING (R155). -/
def State.losePresence (s : State) (n : Port) (midFrame : Bool) : State :=
  if (s.session n).presenceUsed then
    match s.partState with
    | .starting => s
    | .ready => (s.modifyPort n fun p => p.cleared midFrame).endSession n .presence
    | .degraded => s.endSession n .presence
  else s

/-- PRESENCE_FALL (R103, R178). While the reset pin is low only the input's level is kept (R156). -/
def execPresenceFall (n : Port) (midFrame : Bool) (s : State) : Host.Outcome State Fault Refusal :=
  .next (if s.resetLow then s.sense n false else (s.sense n false).losePresence n midFrame)

end Sys2Proof.Machine
end

