-- ==== Sys2Proof/Machine/Watches.lean ====
section
/-! DEFINITION. ADD_WATCH, DROP_WATCH, NOTICES, ACK, FILTER_DEADLINE and WAKE_FILTER_DEADLINE (chapter 7). -/

namespace Sys2Proof.Machine

def Live.setWatch (v : Live) (id : WatchId) (w : Option Watch) : Live := { v with watches := v.watches.set id w }

/-- A watch record of port n's session. -/
def State.watch (s : State) (n : Port) (id : WatchId) : Option Watch := (s.live n).bind fun v => v.watches.get id

/-- R130: the lowest id that the session's records do not use. -/
def State.freeWatch (s : State) (n : Port) : Option WatchId :=
  (s.live n).bind fun v => Table.lowest v.watches fun w => decide (w = none)

/-- R130: the new record, seeded with the line's observed level. -/
def WatchArgs.record (a : WatchArgs) (observed : Level) : Watch :=
  { line := a.line, edge := a.edge, filter := a.filter, urgent := a.urgent,
    view := { filtered := observed, candidate := none }, pending := none }

/-- R130: the request-specific part of ADD_WATCH. -/
def decideAddWatch (n : Port) (a : WatchArgs) (s : State) : Verdict :=
  match s.freeWatch n with
  | none => .done s (Reply.bare .tableFull)
  | some id =>
    let observed := (s.line a.line).observed
    .done (s.modifyLive n fun v => v.setWatch id (some (a.record observed)))
      (Reply.of .ok (.watchAdded id observed s.lineTime))

/-- ADD_WATCH (R130). -/
def execAddWatch (h : Header) (line edge : Byte) (filter : BitVec 16) (urgency : Byte) (s : State) :
    Host.Outcome State Fault Refusal :=
  .next (s.serve h 5 (checked h .readyOnly .required .none (watchArgs line edge filter urgency)
    (decideAddWatch h.port)))

/-- R133: the request-specific part of DROP_WATCH. -/
def decideDropWatch (n : Port) (id : WatchId) (s : State) : Verdict :=
  match s.watch n id with
  | none => .done s (Reply.bare .notFound)
  | some _ => .done (s.modifyNotices n fun v => v.setWatch id none) (Reply.bare .ok)

/-- DROP_WATCH (R133). -/
def execDropWatch (h : Header) (id : Byte) (s : State) : Host.Outcome State Fault Refusal :=
  .next (s.serve h 1 (checked h .readyOnly .required .none (numberBelow 16 id) (decideDropWatch h.port)))

/-- The pending notices of port n's session in presentation order (R138). -/
def State.noticesOf (s : State) (n : Port) : List Notice := ((s.live n).map Live.pendingNotices).getD []

/-- R137: the request-specific part of NOTICES. -/
def decideNotices (n : Port) (s : State) : Verdict :=
  let all := s.noticesOf n
  .done s (Reply.of .ok (.notices all.length (decide (20 < all.length)) s.lineTime (all.take 20)))

/-- NOTICES (R137, R138). -/
def execNotices (h : Header) (s : State) : Host.Outcome State Fault Refusal :=
  .next (s.serve h 0 (checked h .readyOnly .required .none (some ()) fun _ => decideNotices h.port))

/-- R139: one identifier of an ACK: the session with the notice cleared, or none where it names no pending notice. -/
def Live.acknowledge (v : Live) : NoticeId → Option Live
  | .watchEdge id =>
    match v.watches.get id with
    | none => none
    | some w =>
      match w.pending with
      | none => none
      | some _ => some (v.setWatch id (some { w with pending := none }))
  | .claimGranted t =>
    match v.tickets.get t with
    | .granted _ _ _ => some (v.setTicket t .idle)
    | .idle => none
    | .waiting _ => none
    | .expired _ _ => none
  | .claimExpired t =>
    match v.tickets.get t with
    | .expired _ _ => some (v.setTicket t .idle)
    | .idle => none
    | .waiting _ => none
    | .granted _ _ _ => none
  | .lineFaulted l =>
    (v.lineNotices.get l).faulted.map fun _ =>
      { v with lineNotices := v.lineNotices.set l { v.lineNotices.get l with faulted := none } }
  | .lineInherited l =>
    (v.lineNotices.get l).inherited.map fun _ =>
      { v with lineNotices := v.lineNotices.set l { v.lineNotices.get l with inherited := none } }
  | .termEnded l =>
    (v.lineNotices.get l).termEnded.map fun _ =>
      { v with lineNotices := v.lineNotices.set l { v.lineNotices.get l with termEnded := none } }
  | .seqHalted q =>
    match v.outcomes.get q with
    | some (.halted _ _ _ _) => some { v with outcomes := v.outcomes.set q none }
    | some (.finished _ _) => none
    | none => none
  | .seqFinished q =>
    match v.outcomes.get q with
    | some (.finished _ _) => some { v with outcomes := v.outcomes.set q none }
    | some (.halted _ _ _ _) => none
    | none => none
  | .agentLost n => (v.losses.get n).map fun _ => { v with losses := v.losses.set n none }

/-- R139: the identifiers taken in list order: the session afterwards and the number cleared. -/
def Live.acknowledgeAll (v : Live) : List NoticeId → Live × Nat
  | [] => (v, 0)
  | id :: rest =>
    match v.acknowledge id with
    | none => Live.acknowledgeAll v rest
    | some v' => ((Live.acknowledgeAll v' rest).1, (Live.acknowledgeAll v' rest).2 + 1)

/-- R139: the request-specific part of ACK. -/
def decideAck (n : Port) (ids : List NoticeId) (s : State) : Verdict :=
  let cleared := ((s.live n).map fun v => (v.acknowledgeAll ids).2).getD 0
  .done (s.modifyNotices n fun v => (v.acknowledgeAll ids).1)
    (Reply.of .ok (.acked cleared (ids.length - cleared)))

/-- ACK (R139). -/
def execAck (h : Header) (ids : List RawNoticeId) (s : State) : Host.Outcome State Fault Refusal :=
  .next (s.serve h (2 * ids.length) (checked h .readyOnly .required .none (ackArgs ids) (decideAck h.port)))

/-- R131: the filter deadline of a watch record is reached at this line time. -/
def State.filterDue (s : State) (n : Port) (id : WatchId) : Option Watch :=
  (s.watch n id).bind fun w => if w.view.due s.lineTime then some w else none

/-- FILTER_DEADLINE (R131, R132). It acts where the deadline is present and reached (log 6). -/
def execFilterDeadline (n : Port) (id : WatchId) (s : State) : Host.Outcome State Fault Refusal :=
  .next (match s.filterDue n id with
    | none => s
    | some w => s.modifyNotices n fun v => v.setWatch id (some w.take))

/-- R145: the filter deadline of an active wake watch is reached at this line time. -/
def State.wakeDue (s : State) (k : Nat) : Option WakeWatch :=
  (s.wakeWatches[k]?).bind fun w => if (w.view.map fun f => f.due s.lineTime) = some true then some w else none

/-- R145: the candidate of a wake watch becomes its filtered level, and a matching edge raises its wake output. -/
def State.takeWake (s : State) (k : Nat) (w : WakeWatch) : State :=
  let p := w.deliver Filter.take
  let taken := { s with wakeWatches := s.wakeWatches.set k p.1 }
  if p.2 then taken.setWakeOut w.target true else taken

/-- WAKE_FILTER_DEADLINE (R145). It acts where the deadline is present and reached (log 6). -/
def execWakeFilterDeadline (number : Fin 8) (s : State) : Host.Outcome State Fault Refusal :=
  .next (match s.wakeDue number.val with
    | none => s
    | some w => s.takeWake number.val w)

end Sys2Proof.Machine
end

