-- ==== Sys2Proof/Machine/Clock.lean ====
section
/-! DEFINITION. The part's own clock (R128, R129): which deadlines are reached at this line time, which of them is taken
first, and the microsecond that passes where none is. It acts when no command waits (log 4). -/

namespace Sys2Proof.Machine

/-- The command, where its deadline is reached. -/
def dueIf (reached : Bool) (c : Instr) : List Instr := if reached then [c] else []

/-- The deadlines of lines: stage (R7), readback (R14), term (R35). -/
def State.dueLines (s : State) : List Instr :=
  allLines.flatMap fun l =>
    dueIf (s.stageDue l).isSome (.stageEnd l) ++ dueIf (s.readbackDue l) (.readbackDeadline l) ++
      dueIf (s.termIsDue l) (.termDeadline l)

/-- The patience deadlines of the pending list (R84). -/
def State.duePatience (s : State) : List Instr :=
  s.pendingList.flatMap fun e => dueIf (s.patienceDue e.agent e.ticket).isSome (.patienceDeadline e.agent e.ticket)

/-- The period deadlines of sessions (R94) and the filter deadlines of their watches (R131). -/
def State.dueSessions (s : State) : List Instr :=
  (List.finRange 3).flatMap fun n =>
    dueIf (s.periodDue n) (.periodDeadline n) ++
      (List.finRange 16).flatMap fun id => dueIf (s.filterDue n id).isSome (.filterDeadline n id)

/-- The hold deadlines of runs (R118). -/
def State.dueRuns (s : State) : List Instr := (List.finRange 2).flatMap fun k => dueIf (s.holdDue k) (.holdDeadline k)

/-- The filter deadlines of wake watches (R145). -/
def State.dueWakes (s : State) : List Instr :=
  (List.finRange 8).flatMap fun k => dueIf (s.wakeDue k.val).isSome (.wakeFilterDeadline k)

/-- Every deadline event that is due at this line time (R129). -/
def State.due (s : State) : List Instr := s.dueLines ++ s.duePatience ++ s.dueSessions ++ s.dueRuns ++ s.dueWakes

/-- R128: a microsecond passes. A pad in KEEP is then past the moment of its entry, at which it drove its level strongly,
and its keeper holds the level that the pad is at (R1, log 24). -/
def State.pass (s : State) : State :=
  { s with lineTime := s.lineTime + 1, lines := Table.map Line.followed s.lines }

/-- The events that are due, in the order in which they could be taken: any of them may be first (0.6), and a free
value chooses among two or more (log 5). -/
def State.nextDue (s : State) : Option (Instr × State) :=
  match s.due with
  | [] => none
  | [c] => some (c, s)
  | c :: cs => some (((c :: cs)[Config.dueChoice s.choices % (cs.length + 1)]?).getD c, { s with choices := s.choices + 1 })

end Sys2Proof.Machine
end

