-- ==== Sys2Proof/Machine/Interlocks.lean ====
section
/-! DEFINITION. The requests on the interlock table: ADD_INTERLOCK, DROP_INTERLOCK and LIST_INTERLOCKS (3.4). -/

namespace Sys2Proof.Machine

/-- R59: the request-specific part of ADD_INTERLOCK. -/
def decideAddInterlock (n : Port) (r : Rule) (s : State) : Verdict :=
  match Table.lowest s.interlocks InterlockSlot.isEmpty with
  | none => .done s (Reply.bare .tableFull)
  | some k =>
    if r.matchedBy s.assertion then .done s (Reply.bare .violatedNow)
    else .done (s.setRule k (.rule r .occupied (.runtime n))) (Reply.of .ok (.ruleSlot k))

/-- ADD_INTERLOCK (R59). -/
def execAddInterlock (h : Header) (x a y b : Byte) (s : State) : Host.Outcome State Fault Refusal :=
  .next (s.serve h 4 (checked h .readyOnly .required .configure (ruleArgs x a y b) (decideAddInterlock h.port)))

/-- R60: the request-specific part of DROP_INTERLOCK. -/
def decideDropInterlock (k : RuleSlot) (s : State) : Verdict :=
  match s.ruleAt k with
  | .empty => .done s (Reply.bare .notFound)
  | .rule _ _ .fixed => .done s (Reply.bare .fixedEntry)
  | .rule _ _ (.runtime _) => .done (s.setRule k .empty) (Reply.bare .ok)

/-- DROP_INTERLOCK (R60). -/
def execDropInterlock (h : Header) (slot : Byte) (s : State) : Host.Outcome State Fault Refusal :=
  .next (s.serve h 1 (checked h .readyOnly .required .configure (numberBelow 32 slot) decideDropInterlock))

/-- R61: every slot that is not EMPTY, in ascending slot order. -/
def State.interlockEntries (s : State) : List InterlockEntry :=
  (List.finRange 32).filterMap fun k =>
    match s.ruleAt k with
    | .empty => none
    | .rule r status origin => some { slot := k, rule := r, status := status, origin := origin }

/-- R61: the number of fixed rules in the loaded profile: no request removes a FIXED rule, so it is the number of slots
that hold one. -/
def State.fixedCount (s : State) : Nat := ((List.finRange 32).filter fun k => (s.ruleAt k).isFixed).length

/-- R61: the request-specific part of LIST_INTERLOCKS. -/
def decideListInterlocks (s : State) : Verdict := .done s (Reply.of .ok (.interlocks s.fixedCount s.interlockEntries))

/-- LIST_INTERLOCKS (R61). -/
def execListInterlocks (h : Header) (s : State) : Host.Outcome State Fault Refusal :=
  .next (s.serve h 0 (checked h .readyOnly .required .none (some ()) fun _ => decideListInterlocks))

end Sys2Proof.Machine
end

