-- ==== Sys2Proof/Machine/Flash.lean ====
section
/-! DEFINITION. The flash port: the five commands the part sends (R147), and what the flash device does with them. -/

namespace Sys2Proof.Machine

/-- The size of a slot and of an erase sector (8.1). -/
def slotSize : Nat := 4096

/-- The address of a slot's first byte: slot A at byte 0, slot B at byte 4,096 (R147). -/
def FlashSlot.base : FlashSlot → Nat
  | .a => 0
  | .b => slotSize

def FlashSlot.other : FlashSlot → FlashSlot
  | .a => .b
  | .b => .a

/-- The five commands of the serial flash (R147). -/
inductive FlashCommand where
  | read (address length : Nat)
  | writeEnable
  | pageProgram (address : Nat) (data : List Byte)
  | sectorErase (address : Nat)
  | readStatus
deriving DecidableEq, Repr

/-- An address on the flash port: three bytes, most significant first (R147). -/
def addressBytes (a : Nat) : List Byte := [BitVec.ofNat 8 (a / 65536), BitVec.ofNat 8 (a / 256), BitVec.ofNat 8 a]

/-- The bytes the part shifts out for a command (R147). -/
def FlashCommand.bytes : FlashCommand → List Byte
  | .read a _ => 3 :: addressBytes a
  | .writeEnable => [6]
  | .pageProgram a data => 2 :: addressBytes a ++ data
  | .sectorErase a => 32 :: addressBytes a
  | .readStatus => [5]

/-- R147: programming changes a bit from 1 to 0 and not back, so each byte becomes the bitwise combination. -/
def Memory.program : List Host.Cell → Nat → List Byte → List Host.Cell
  | m, _, [] => m
  | m, a, v :: vs => Memory.program (Memory.write m a (Memory.read m a &&& v)) (a + 1) vs

/-- R147: a sector erase sets every byte of the 4,096-byte sector that holds the address to FFh. -/
def Memory.eraseSector (m : List Host.Cell) (address : Nat) : List Host.Cell :=
  m.filter fun c => decide (c.1 / slotSize ≠ address / slotSize)

/-- What a sound device does with one command, given whether a write enable stands (R147). -/
def FlashCommand.run : FlashCommand → Bool × List Host.Cell → Bool × List Host.Cell
  | .read _ _, st => st
  | .readStatus, st => st
  | .writeEnable, (_, m) => (true, m)
  | .pageProgram a data, (enabled, m) => (false, if enabled then Memory.program m a data else m)
  | .sectorErase a, (enabled, m) => (false, if enabled then Memory.eraseSector m a else m)

/-- A list of commands, in order, from a device with no write enable standing. -/
def runCommands (cs : List FlashCommand) (m : List Host.Cell) : List Host.Cell :=
  (cs.foldl (fun st c => c.run st) (false, m)).2

/-- The commands that program `data` at an address: one page program, or two where the bytes cross a 256-byte page
boundary, each after a write enable and followed by a poll (R147, R162). -/
def programCommands (address : Nat) (data : List Byte) : List FlashCommand :=
  let room := 256 - address % 256
  if data.length ≤ room then [.writeEnable, .pageProgram address data, .readStatus]
  else [.writeEnable, .pageProgram address (data.take room), .readStatus,
        .writeEnable, .pageProgram (address + room) (data.drop room), .readStatus]

/-- The commands that erase a slot (R161). -/
def eraseCommands (slot : FlashSlot) : List FlashCommand := [.writeEnable, .sectorErase slot.base, .readStatus]

/-- Bytes that the device holds at another value than a sound device would, in one slot, at the offsets `allowed`
admits (log 9). -/
def Memory.leave (m : List Host.Cell) (slot : FlashSlot) (allowed : Nat → Bool) (left : FlashCells) : List Host.Cell :=
  (left.filter fun c => allowed c.1 && decide (c.1 < slotSize)).foldl
    (fun m c => Memory.write m (slot.base + c.1) c.2) m

/-- The offsets of the spare that a flash request can change (R161 to R164): all of them for an erase, the written
ones for a write, the marker's for a commit, none for a read. -/
def FlashWork.touches : FlashWork → Nat → Bool
  | .read _ _ _, _ => false
  | .erase, _ => true
  | .write offset data, o => decide (offset ≤ o ∧ o < offset + data.length)
  | .commit, o => decide (o = 5)

end Sys2Proof.Machine
end

