-- ==== Sys2Proof/Machine/Image.lean ====
section
/-! DEFINITION. Profile images: their layout (R148), their CRC (R149) and the checks of R150, and what a valid image
says. -/

namespace Sys2Proof.Machine

/-- A 16-bit field, least significant byte first (R148). -/
def le16 (lo hi : Byte) : Nat := lo.toNat + 256 * hi.toNat

/-- A 32-bit field, least significant byte first (R148). -/
def le32 (b0 b1 b2 b3 : Byte) : BitVec 32 := b3 ++ b2 ++ b1 ++ b0

/-! ## CRC-32 (R149) -/

/-- The generator of R149, with the coefficients in reverse, for bytes taken least significant bit first. -/
def crc32Poly : BitVec 32 := 0xEDB88320

def crc32Bit (c : BitVec 32) : BitVec 32 := if c.getLsbD 0 then (c >>> 1) ^^^ crc32Poly else c >>> 1

def crc32Bits : Nat → BitVec 32 → BitVec 32
  | 0, c => c
  | k + 1, c => crc32Bits k (crc32Bit c)

def crc32From (c : BitVec 32) : List Byte → BitVec 32
  | [] => c
  | b :: bs => crc32From (crc32Bits 8 (c ^^^ b.setWidth 32)) bs

/-- R149: the CRC-32 of a body: from all ones, complemented. -/
def crc32 (bytes : List Byte) : BitVec 32 := ~~~ crc32From 0xFFFFFFFF bytes

/-! ## The layout (R148) -/

/-- The fields of a header (8.2). -/
structure RawHeader where
  identifier : List Byte
  version    : Byte
  marker     : Byte
  length     : Nat
  generation : BitVec 32
  crc        : BitVec 32
deriving DecidableEq, Repr

/-- The header at offsets 0 to 15 of a slot, read byte by byte. -/
def RawHeader.ofSlot (rd : Nat → Byte) : RawHeader :=
  { identifier := [rd 0, rd 1, rd 2, rd 3], version := rd 4, marker := rd 5, length := le16 (rd 6) (rd 7),
    generation := le32 (rd 8) (rd 9) (rd 10) (rd 11), crc := le32 (rd 12) (rd 13) (rd 14) (rd 15) }

/-- The body bytes, from offset 16 of a slot. -/
def bodyOf (rd : Nat → Byte) (length : Nat) : List Byte := (List.range length).map fun i => rd (16 + i)

structure RawAgent where
  rights   : Byte
  presence : Byte
deriving DecidableEq, Repr

structure RawLine where
  pinned      : Byte
  disposition : Byte
  heir        : Byte
  fallback    : RawDrive
  settle      : Nat
deriving DecidableEq, Repr

structure RawGroup where
  number  : Byte
  count   : Byte
  members : List Byte
deriving DecidableEq, Repr

structure RawRule where
  x : Byte
  a : Byte
  y : Byte
  b : Byte
deriving DecidableEq, Repr

structure RawSequence where
  number : Byte
  steps  : List RawStep
deriving DecidableEq, Repr

structure RawWake where
  line   : Byte
  edge   : Byte
  filter : Nat
  target : Byte
deriving DecidableEq, Repr

/-- The six sections of a body (8.2). -/
structure RawBody where
  agents    : List RawAgent
  lines     : List RawLine
  groups    : List RawGroup
  rules     : List RawRule
  sequences : List RawSequence
  wakes     : List RawWake
deriving DecidableEq, Repr

def readAgent : List Byte → Option (RawAgent × List Byte)
  | r :: p :: rest => some ({ rights := r, presence := p }, rest)
  | _ => none

def readLine : List Byte → Option (RawLine × List Byte)
  | p :: d :: h :: m :: l :: s0 :: s1 :: rest =>
    some ({ pinned := p, disposition := d, heir := h, fallback := { mode := m, level := l }, settle := le16 s0 s1 }, rest)
  | _ => none

def readGroup : List Byte → Option (RawGroup × List Byte)
  | g :: m :: rest =>
    if 16 ≤ rest.length then some ({ number := g, count := m, members := rest.take 16 }, rest.drop 16) else none
  | _ => none

def readRule : List Byte → Option (RawRule × List Byte)
  | x :: a :: y :: b :: rest => some ({ x := x, a := a, y := y, b := b }, rest)
  | _ => none

def readStep : List Byte → Option (RawStep × List Byte)
  | l :: m :: v :: h0 :: h1 :: rest =>
    some ({ line := l, drive := { mode := m, level := v }, hold := h1 ++ h0 }, rest)
  | _ => none

def readWake : List Byte → Option (RawWake × List Byte)
  | l :: e :: f0 :: f1 :: t :: rest => some ({ line := l, edge := e, filter := le16 f0 f1, target := t }, rest)
  | _ => none

/-- `n` records, one after another. -/
def readRecords {α : Type} (one : List Byte → Option (α × List Byte)) : Nat → List Byte → Option (List α × List Byte)
  | 0, bytes => some ([], bytes)
  | n + 1, bytes =>
    (one bytes).bind fun p => (readRecords one n p.2).map fun q => (p.1 :: q.1, q.2)

/-- A count byte of at most `max`, then that many records. -/
def readCounted {α : Type} (max : Nat) (one : List Byte → Option (α × List Byte)) :
    List Byte → Option (List α × List Byte)
  | c :: rest => if c.toNat ≤ max then readRecords one c.toNat rest else none
  | [] => none

/-- A sequence record: number, step count of at most 16, steps. -/
def readSequence : List Byte → Option (RawSequence × List Byte)
  | q :: rest => (readCounted 16 readStep rest).map fun p => ({ number := q, steps := p.1 }, p.2)
  | [] => none

/-- The body in its six sections; none where a count exceeds its maximum or the length is not the sum that the counts
give (R149, R150 LENGTH). -/
def readBody (bytes : List Byte) : Option RawBody :=
  (readRecords readAgent 3 bytes).bind fun agents =>
  (readRecords readLine 48 agents.2).bind fun lines =>
  (readCounted 12 readGroup lines.2).bind fun groups =>
  (readCounted 32 readRule groups.2).bind fun rules =>
  (readCounted 8 readSequence rules.2).bind fun sequences =>
  (readCounted 8 readWake sequences.2).bind fun wakes =>
    if wakes.2 = [] then
      some { agents := agents.1, lines := lines.1, groups := groups.1, rules := rules.1, sequences := sequences.1,
             wakes := wakes.1 }
    else none

/-! ## The checks of R150 -/

/-- A byte flag: 00h or 01h. -/
def isFlag (b : Byte) : Bool := (levelArg b).isSome

def RawAgent.inRange (x : RawAgent) : Bool := (x.rights &&& 0xFC) == 0 && isFlag x.presence

def RawLine.inRange (x : RawLine) : Bool :=
  isFlag x.pinned && isFlag x.disposition && (heirArg x.heir).isSome && (driveArg x.fallback).isSome &&
    (within 2 500 x.settle).isSome

/-- The member bytes in use: the first m (8.2). -/
def RawGroup.used (x : RawGroup) : List Byte := x.members.take x.count.toNat

def RawGroup.inRange (x : RawGroup) : Bool :=
  (numberBelow 12 x.number).isSome && x.used.all fun b => (lineArg b).isSome

def RawRule.inRange (x : RawRule) : Bool :=
  (lineArg x.x).isSome && (levelArg x.a).isSome && (lineArg x.y).isSome && (levelArg x.b).isSome

def RawWake.inRange (x : RawWake) : Bool :=
  (lineArg x.line).isSome && (edgeArg x.edge).isSome && (within 0 50000 x.filter).isSome &&
    (numberBelow 3 x.target).isSome

/-- What RANGE asks of a sequence step: its mode, level and hold. -/
def stepInRange (x : RawStep) : Bool := (driveArg x.drive).isSome && (within 0 60000 x.hold.toNat).isSome

/-- Check 5, RANGE. -/
def RawBody.inRange (x : RawBody) : Bool :=
  x.agents.all RawAgent.inRange && x.lines.all RawLine.inRange && x.groups.all RawGroup.inRange &&
    x.rules.all RawRule.inRange && (x.sequences.all fun q => q.steps.all stepInRange) && x.wakes.all RawWake.inRange

/-- Check 6, SAME_LINE. -/
def RawBody.distinctLines (x : RawBody) : Bool := x.rules.all fun r => decide (r.x ≠ r.y)

/-- The line that a byte numbers is pinned. -/
def RawBody.pinnedAt (x : RawBody) (b : Byte) : Bool :=
  match x.lines[b.toNat]? with
  | none => false
  | some l => decide (l.pinned = 1)

/-- Check 7, GROUP. -/
def RawBody.groupsSound (x : RawBody) : Bool :=
  decide ((x.groups.map (·.number)).Nodup) &&
    (x.groups.all fun g => (within 2 16 g.count.toNat).isSome) &&
    decide ((x.groups.flatMap (·.used)).Nodup) &&
    (x.groups.all fun g => g.used.all fun b => !x.pinnedAt b) &&
    (x.groups.all fun g => (g.members.drop g.count.toNat).all fun b => decide (b = 0xFF))

/-- Check 8, HEIR. -/
def RawBody.heirsSound (x : RawBody) : Bool := x.lines.all fun l => decide (l.pinned = 1 → l.heir = 0xFF)

/-- Check 9, SEQUENCE. -/
def RawBody.sequencesSound (x : RawBody) : Bool :=
  decide ((x.sequences.map (·.number)).Nodup) &&
    x.sequences.all fun q =>
      (numberBelow 8 q.number).isSome && !q.steps.isEmpty && q.steps.all fun st => (lineArg st.line).isSome

/-! ## What a valid image says -/

/-- A profile image, typed. -/
structure Image where
  agents    : Vector (Bool × Bool × Bool) 3
  lines     : Vector Statics 48
  groups    : Vector (Option (List LineId)) 12
  rules     : List Rule
  sequences : Vector (Option (List SeqStep)) 8
  wakes     : List WakeWatch
deriving DecidableEq, Repr

/-- A port's rights CONFIGURE and PRIORITY and its presence-used setting (8.2). -/
def RawAgent.settings (x : RawAgent) : Bool × Bool × Bool :=
  (x.rights.getLsbD 0, x.rights.getLsbD 1, decide (x.presence = 1))

/-- The group that names a line, if any. -/
def RawBody.groupAt (x : RawBody) (l : LineId) : Option GroupId :=
  (x.groups.find? fun g => g.used.contains (BitVec.ofNat 8 l.val)).bind fun g => numberBelow 12 g.number

/-- The static fields of a line record (8.2, 2.1). -/
def RawLine.statics (x : RawLine) (group : Option GroupId) : Statics :=
  { pinned := decide (x.pinned = 1), settle := x.settle, fallback := (driveArg x.fallback).getD .float,
    disposition := if x.disposition = 1 then .fallback else .present, defaultHeir := (heirArg x.heir).getD none,
    group := group }

/-- The lines of a group, in line order. -/
def RawGroup.lines (x : RawGroup) : List LineId := ascending (x.used.filterMap lineArg)

def RawRule.rule (x : RawRule) : Option Rule := ruleArgs x.x x.a x.y x.b

def RawWake.wake (x : RawWake) : Option WakeWatch :=
  (watchArgs x.line x.edge (BitVec.ofNat 16 x.filter) 0).bind fun w => (numberBelow 3 x.target).map fun n =>
    { line := w.line, edge := w.edge, filter := w.filter, target := n, view := none }

/-- The typed image of a body that passes the checks. -/
def RawBody.image (x : RawBody) : Image :=
  { agents := Vector.ofFn fun n => ((x.agents[n.val]?).map RawAgent.settings).getD (false, false, false)
    lines := Vector.ofFn fun l => ((x.lines[l.val]?).map fun r => r.statics (x.groupAt l)).getD Statics.unset
    groups := Vector.ofFn fun g =>
      (x.groups.find? fun r => decide (r.number = BitVec.ofNat 8 g.val)).map RawGroup.lines
    rules := x.rules.filterMap RawRule.rule
    sequences := Vector.ofFn fun q =>
      (x.sequences.find? fun r => decide (r.number = BitVec.ofNat 8 q.val)).map fun r => r.steps.filterMap stepArg
    wakes := x.wakes.filterMap RawWake.wake }

/-- R62: the set that gives each line just the asserted level of its fallback drive. -/
def Image.fallbackLevels (x : Image) (l : LineId) : Levels := (x.lines.get l).fallback.levels

/-- Check 10, FALLBACK (R62). -/
def Image.fallbacksAdmitted (x : Image) : Bool := x.rules.all fun r => !r.matchedBy x.fallbackLevels

/-- What the two checks that differ between a load and PROFILE_COMMIT ask (R150, R163). -/
inductive CheckMode where
  | load
  | commit (loaded : BitVec 32)
deriving DecidableEq, Repr

/-- Check 2, MARKER. -/
def CheckMode.marker : CheckMode → Byte → Bool
  | .load, m => decide (m = 0x5A)
  | .commit _, m => decide (m = 0xFF ∨ m = 0x5A)

/-- Check 11, GENERATION: not 0 at a load; the loaded generation plus 1, which does not wrap, at PROFILE_COMMIT. -/
def CheckMode.generation : CheckMode → BitVec 32 → Bool
  | .load, g => decide (g ≠ 0)
  | .commit loaded, g => decide (g.toNat = loaded.toNat + 1)

/-- R150: the checks in order on a header and the body that it announces; the first that fails gives the reason. -/
def checkParts (mode : CheckMode) (h : RawHeader) (body : List Byte) : Except ImageFault Image :=
  if ¬(h.identifier = [0x4C, 0x35, 0x48, 0x31] ∧ h.version = 1) then .error .identifier
  else if mode.marker h.marker = false then .error .marker
  else if ¬(346 ≤ h.length ∧ h.length ≤ 4080) then .error .length
  else
    match readBody body with
    | none => .error .length
    | some raw =>
      if crc32 body ≠ h.crc then .error .crc
      else if raw.inRange = false then .error .range
      else if raw.distinctLines = false then .error .sameLine
      else if raw.groupsSound = false then .error .group
      else if raw.heirsSound = false then .error .heir
      else if raw.sequencesSound = false then .error .sequence
      else if raw.image.fallbacksAdmitted = false then .error .fallback
      else if mode.generation h.generation = false then .error .generation
      else .ok raw.image

/-- R150: the checks on the image that starts at byte 0 of a slot. -/
def checkImage (mode : CheckMode) (rd : Nat → Byte) : Except ImageFault Image :=
  checkParts mode (RawHeader.ofSlot rd) (bodyOf rd (RawHeader.ofSlot rd).length)

/-- The bytes of a slot. -/
def State.slotByte (s : State) (slot : FlashSlot) (offset : Nat) : Byte := Memory.read s.flash (slot.base + offset)

/-- The generation field of a slot, as read. -/
def State.slotGeneration (s : State) (slot : FlashSlot) : BitVec 32 := (RawHeader.ofSlot (s.slotByte slot)).generation

/-- R152, step 2: a slot read and checked at a load. -/
def State.checkSlot (s : State) (slot : FlashSlot) : Except ImageFault Image := checkImage .load (s.slotByte slot)

end Sys2Proof.Machine
end

