-- ==== Sys2Proof/Machine/Loading.lean ====
section
/-! DEFINITION. Loads, their ends and RESTART (8.4 to 8.6): LOAD_END, LOAD_STATUS_TIMEOUT, RESTART, RESET_LOW and
RESET_RELEASE. -/

namespace Sys2Proof.Machine

/-! ## Bringing an image into force (R153, R158) -/

/-- R153, step 1: the static fields of every line record. -/
def State.forceStatics (s : State) (x : Image) : State :=
  { s with lines := Vector.ofFn fun l => { s.line l with statics := some (x.lines.get l) } }

/-- R49, R153, step 2: the image's rules in slots 0 onward with origin FIXED, every other slot EMPTY. -/
def ruleSlots (rules : List Rule) : Vector InterlockSlot 32 :=
  Vector.ofFn fun k =>
    match rules[k.val]? with
    | some r => .rule r .occupied .fixed
    | none => .empty

/-- R91: the rights and the presence setting of every port. -/
def State.forceAgents (s : State) (settings : Port → Bool × Bool × Bool) : State :=
  { s with sessions := Vector.ofFn fun n =>
      { s.session n with configure := (settings n).1, priority := (settings n).2.1,
                         presenceUsed := (settings n).2.2 } }

/-- R109: the sequence store rebuilt from the image. -/
def storeOf (x : Image) : Vector (Option Sequence) 8 :=
  Table.map (fun steps => steps.map fun ss => { origin := .profile, steps := ss }) x.sequences

/-- R153, steps 1 to 4: everything but the lines' moves. -/
def State.force (s : State) (x : Image) : State :=
  let t := (s.forceStatics x).forceAgents fun n => x.agents.get n
  { t with interlocks := ruleSlots x.rules, groups := x.groups, store := storeOf x,
           wakeWatches := x.wakes.map t.seedWake }

/-- R46, R48: a pinned line is held by the profile and moved from its present drive to its fallback: MOVING, or HELD
where the two are equal. -/
def State.pinLine (l : LineId) (s : State) : State :=
  let held := s.modifyLine l fun ln =>
    { ln with state := .held, holder := .profile, heir := none, freeReason := none }
  (held.enterChecked l).driveTo l (s.line l).static.fallback

/-- R46, R21: an unpinned line is released from FLOAT to its fallback. -/
def State.startLine (l : LineId) (s : State) : State := s.beginRelease l .start (s.line l).static.fallback

/-- R153, step 5: the start-up states, in ascending line order. Under R62 admission refuses none of them. -/
def State.startUp (s : State) : State :=
  State.forLines (fun l s => if (s.line l).static.pinned then s.pinLine l else s.startLine l) allLines s

/-! ## The restart conflict rule (R64) -/

/-- R64, step 3: the settled level of a line, given the lines already chosen for FLOAT. -/
def State.settled (s : State) (drives : LineId → Drive) (chosen : List LineId) (l : LineId) : Levels :=
  if (s.line l).static.pinned then (s.line l).static.fallback.levels
  else if chosen.contains l then Levels.empty
  else (drives l).levels

/-- R64, step 3: the line that a matched rule chooses: the unpinned one, the higher-numbered of two. -/
def State.conflictChoice (s : State) (r : Rule) : Option LineId :=
  match (s.line r.x).static.pinned, (s.line r.y).static.pinned with
  | true, true => none
  | true, false => some r.y
  | false, true => some r.x
  | false, false => some (if r.x < r.y then r.y else r.x)

/-- R64, step 3: one pass over the rules, in slot order: the lines chosen for FLOAT. -/
def State.conflicts (s : State) (drives : LineId → Drive) : List Rule → List LineId → List LineId
  | [], chosen => chosen
  | r :: rest, chosen =>
    if r.matchedBy (s.settled drives chosen) then
      State.conflicts s drives rest (chosen ++ (s.conflictChoice r).toList)
    else State.conflicts s drives rest chosen

/-- R64, step 4: a rule that the assertion set matches makes its slot RESERVED, any other OCCUPIED. -/
def InterlockSlot.place (slot : InterlockSlot) (sets : LineId → Levels) : InterlockSlot :=
  match slot with
  | .empty => .empty
  | .rule r _ origin => .rule r (if r.matchedBy sets then .reserved else .occupied) origin

/-- R64, R48: the table is rebuilt, the pinned lines' moves start, the conflict rule floats lines, and the statuses of
the slots are settled. The image is already in force. -/
def State.resolveConflicts (s : State) (x : Image) : State :=
  let chosen := s.conflicts (fun l => (s.line l).drive) (x.rules.take 32) []
  let pinned := State.forLines (fun l s => if (s.line l).static.pinned then s.pinLine l else s) allLines s
  let floated := State.forLines State.floatLine (ascending chosen) pinned
  { floated with interlocks := Table.map (fun slot => slot.place floated.assertion) (ruleSlots x.rules) }

/-! ## The end of a load (R152, R153, R154, R158) -/

/-- R154: nothing of a profile is in force, and every port has CONFIGURE alone. -/
def State.degrade (s : State) : State :=
  let t := s.forceAgents fun _ => (true, false, false)
  { t with interlocks := Vector.replicate 32 .empty, groups := Vector.replicate 12 none,
           store := Vector.replicate 8 none, wakeWatches := [] }

/-- R22, R48: every line whose pad is not in FLOAT is moved there. -/
def State.floatAll (s : State) : State :=
  State.forLines (fun l s => if (s.line l).drive = .float then s else s.floatLine l) allLines s

/-- R152, step 4, with a selection. -/
def State.endReady (s : State) (restart : Bool) (slot : FlashSlot) (generation : BitVec 32) (x : Image) : State :=
  let t := (s.modifyLoader fun r =>
    { r with partState := .ready, loaded := some slot, generation := generation, spare := slot.other,
             spareState := .stale, load := none }).force x
  if restart then t.resolveConflicts x else t.startUp

/-- R152, step 4, without a selection. -/
def State.endDegraded (s : State) (restart : Bool) : State :=
  let t := (s.modifyLoader fun r =>
    { r with partState := .degraded, loaded := none, generation := 0, spare := .a, spareState := .stale,
             load := none }).degrade
  if restart then t.floatAll else t

/-- R152, step 2: the result of a slot. -/
def slotResult (checked : Except ImageFault Image) (generation : BitVec 32) : SlotResult :=
  match checked with
  | .ok _ => .valid generation
  | .error reason => .invalid reason generation

/-- R152, step 3: the valid slot with the higher generation, slot A where they are equal. -/
def State.selectSlot (s : State) : Option (FlashSlot × BitVec 32 × Image) :=
  let ga := s.slotGeneration .a
  let gb := s.slotGeneration .b
  match s.checkSlot .a, s.checkSlot .b with
  | .ok a, .ok b => if ga.toNat < gb.toNat then some (.b, gb, b) else some (.a, ga, a)
  | .ok a, .error _ => some (.a, ga, a)
  | .error _, .ok b => some (.b, gb, b)
  | .error _, .error _ => none

/-- R152, steps 2 to 4: both slots are read, one is selected, and the load ends. -/
def State.finishLoad (s : State) (restart : Bool) : State :=
  let t := s.modifyLoader fun r =>
    { r with resultA := slotResult (s.checkSlot .a) (s.slotGeneration .a)
             resultB := slotResult (s.checkSlot .b) (s.slotGeneration .b) }
  match s.selectSlot with
  | some (slot, generation, x) => t.endReady restart slot generation x
  | none => t.endDegraded restart

/-- A load is in progress (R152): the part is STARTING and the reset pin is high. -/
def State.loading (s : State) : Option LoadRun := if s.resetLow then none else s.loader.load

/-- LOAD_END (R152 to R154, R158). Where no load is in progress there is none to end. -/
def execLoadEnd (s : State) : Host.Outcome State Fault Refusal :=
  .next (match s.loading with
    | none => s
    | some r => s.finishLoad r.restart)

/-- R152, step 1: how long a load waits for the flash: 400 ms. -/
def loadStatusLimit : Nat := 400

/-- R152, step 1: the flash still reports busy 400 ms after the load began: both slot results become NOT_READ. -/
def State.abandonLoad (s : State) (restart : Bool) : State :=
  (s.modifyLoader fun r => { r with resultA := .notRead, resultB := .notRead }).endDegraded restart

/-- R152, step 1: this line time is 400 ms after the load in progress began. -/
def State.loadTimeout (s : State) : Option LoadRun :=
  s.loading.bind fun r =>
    if s.lineTime = r.began + BitVec.ofNat 32 (loadStatusLimit * 1000) then some r else none

/-- LOAD_STATUS_TIMEOUT (R152). It acts 400 ms after the load began (log 10). -/
def execLoadStatusTimeout (s : State) : Host.Outcome State Fault Refusal :=
  .next (match s.loadTimeout with
    | none => s
    | some r => s.abandonLoad r.restart)

/-! ## RESTART (R157) -/

/-- R47, R22: one line record at the acceptance of a restart; the pad keeps the drive of the stage reached. -/
def Line.restarted (ln : Line) : Line :=
  { ln with state := .free, holder := .none, move := none, heir := none, term := none, termDue := false,
            fault := .none, priorDrive := none, binding := none, freeReason := some .restart, readback := .off }

/-- R108: a session record at the acceptance of a restart. A record that is CLOSED then keeps its end cause, so
that its next OPEN is told it: the load's end writes no end cause. Of R158's sentence on the records after the load this is
the reading that the chapter of the record, chapter 5, gives (0.3, log 30). -/
def Session.restarted (x : Session) : Session :=
  match x.live with
  | none => x
  | some _ => { x with lastEnd := .restart, live := none }

/-- R63: a slot at the acceptance of a restart: RUNTIME rules are dropped, FIXED ones kept. -/
def InterlockSlot.restarted (slot : InterlockSlot) : InterlockSlot := if slot.isFixed then slot else .empty

/-- R109: a store entry at the acceptance of a restart: RUNTIME sequences are dropped. -/
def Sequence.restarted (x : Option Sequence) : Option Sequence :=
  match x with
  | none => none
  | some q => if q.origin = .profile then some q else none

/-- R157: the acceptance of a restart. -/
def State.acceptRestart (s : State) : State :=
  ({ s with
     lines := Table.map Line.restarted s.lines
     interlocks := Table.map InterlockSlot.restarted s.interlocks
     pendingList := []
     sessions := Table.map Session.restarted s.sessions
     store := Table.map Sequence.restarted s.store
     slots := Vector.replicate 2 none
     wakeWatches := []
     wakeOut := Vector.replicate 3 false
     attention := Vector.replicate 3 false
     loader := { s.loader with partState := .starting, load := some { began := s.lineTime, restart := true } }
   } : State).settleReserved

/-- R157: the request-specific part of RESTART. -/
def decideRestart (s : State) : Verdict :=
  match s.loader.flashOp with
  | some _ => .done s (Reply.bare .flashBusy)
  | none => .done s.acceptRestart (Reply.of .ok (.lineTime s.lineTime))

/-- RESTART (R157). -/
def execRestart (h : Header) (s : State) : Host.Outcome State Fault Refusal :=
  .next (s.serve h 0 (checked h .exceptStarting .required .configure (some ()) fun _ => decideRestart))

/-! ## The reset pin (R156) -/

/-- R156: what an abandoned program or erase leaves in the flash. -/
def State.leftInFlash (s : State) (left : FlashCells) : List Host.Cell :=
  match s.loader.flashOp with
  | none => s.flash
  | some op => Memory.leave s.flash s.loader.spare op.work.touches left

/-- R156: every block at its reset values, while the reset pin is low. The pads' observed levels, the presence inputs
and the flash are the board's and are not reset. -/
def State.resetAll (s : State) (left : FlashCells) : State :=
  { s with
    lineTime := 0
    resetLow := true
    lines := Table.map (fun ln => Line.atReset ln.observed) s.lines
    interlocks := Vector.replicate 32 .empty
    groups := Vector.replicate 12 none
    pendingList := []
    sessions := Vector.replicate 3 Session.atReset
    store := Vector.replicate 8 none
    slots := Vector.replicate 2 none
    wakeWatches := []
    wakeOut := Vector.replicate 3 false
    attention := Vector.replicate 3 false
    loader := Loader.atReset none
    ports := Vector.replicate 3 PortRecord.atReset
    flash := s.leftInFlash left }

/-- RESET_LOW (R156). -/
def execResetLow (left : FlashCells) (s : State) : Host.Outcome State Fault Refusal := .next (s.resetAll left)

/-- R20, R128, R151: the reset pin is released: every pad is sensed, line time starts at 0, and a load begins. -/
def State.release (s : State) (levels : BitVec 48) : State :=
  { s with
    resetLow := false
    lines := Vector.ofFn fun l => { s.line l with observed := levels.getLsbD l.val }
    loader := { s.loader with load := some { began := s.lineTime, restart := false } } }

/-- RESET_RELEASE (R151, R156). Power-on, from any state, is handled as a release of the reset pin (log 25). -/
def execResetRelease (levels : BitVec 48) (left : FlashCells) (s : State) : Host.Outcome State Fault Refusal :=
  .next ((s.resetAll left).release levels)

end Sys2Proof.Machine
end

