-- ==== Sys2Proof/Machine/Coding.lean ====
section
/-! DEFINITION. The bytes of responses: the codings of R179 and R181, the outcome codes of R182, the CRC of R170 and
the response frame of R169. What the spec gives no code for is a free value of Config (log 11); what is numbered by the
order in which a chapter lists it is named in log 12. -/

namespace Sys2Proof.Machine

/-! ## The CRC of both frames (R170) -/

/-- R170: the generator x¹⁶ + x¹² + x⁵ + 1. -/
def crc16Poly : BitVec 16 := 0x1021

def crc16Bit (c : BitVec 16) : BitVec 16 := if c.getLsbD 15 then (c <<< 1) ^^^ crc16Poly else c <<< 1

def crc16Bits : Nat → BitVec 16 → BitVec 16
  | 0, c => c
  | k + 1, c => crc16Bits k (crc16Bit c)

def crc16From (c : BitVec 16) : List Byte → BitVec 16
  | [] => c
  | b :: bs => crc16From (crc16Bits 8 (c ^^^ (b.setWidth 16 <<< 8))) bs

/-- R170: from all ones, each byte most significant bit first, neither reflected nor complemented. -/
def crc16 (bytes : List Byte) : BitVec 16 := crc16From 0xFFFF bytes

/-- R170: the two CRC bytes, high byte first. -/
def crcBytes (c : BitVec 16) : List Byte := [(c >>> 8).setWidth 8, c.setWidth 8]

/-- A frame: its bytes followed by their CRC. -/
def withCrc (bytes : List Byte) : List Byte := bytes ++ crcBytes (crc16 bytes)

/-! ## Items (R179) -/

def byteOf (n : Nat) : Byte := BitVec.ofNat 8 n

def bit (b : Bool) : Nat := if b then 1 else 0

/-- A 2-byte item, least significant byte first. -/
def bytes16 (v : BitVec 16) : List Byte := [v.setWidth 8, (v >>> 8).setWidth 8]

/-- A 4-byte item, least significant byte first. -/
def bytes32 (v : BitVec 32) : List Byte :=
  [v.setWidth 8, (v >>> 8).setWidth 8, (v >>> 16).setWidth 8, (v >>> 24).setWidth 8]

/-- The bytes that stand for an absent item: free values, numbered by the item's own number (log 11). -/
def absent (field count : Nat) : List Byte := (List.range count).map fun i => Config.absentByte (field + i)

/-- An optional item of `count` bytes. -/
def optional {α : Type} (field count : Nat) (code : α → List Byte) : Option α → List Byte
  | none => absent field count
  | some a => code a

/-- The mode of a drive, as a number (R179). -/
def Drive.mode : Drive → Nat
  | .float => 0
  | .keep _ => 1
  | .sink _ => 2
  | .drive _ => 3

/-- The level of a drive; FLOAT has none (log 11). -/
def Drive.level : Drive → Bool
  | .float => Config.floatLevel
  | .keep l => l
  | .sink l => l
  | .drive l => l

/-- A drive: mode, level (R179). -/
def Drive.bytes (d : Drive) : List Byte := [byteOf d.mode, byteOf (bit d.level)]

def LineState.number : LineState → Nat
  | .free => 0
  | .held => 1
  | .moving => 2
  | .releasing => 3

def Holder.number : Holder → Nat
  | .none => 0
  | .agent n => n.val + 1
  | .profile => 4

def FreeReason.number : FreeReason → Nat
  | .start => 0
  | .released => 1
  | .termEnded => 2
  | .lost => 3
  | .restart => 4

def LineFault.number : LineFault → Nat
  | .none => 0
  | .readback => 1

def Disposition.number : Disposition → Nat
  | .present => 0
  | .fallback => 1

/-- An end cause, numbered from NONE in the order of 5.1's field, in AGENT_LOST too, the model's choice (log 35). -/
def EndCause.number : EndCause → Nat
  | .none => 0
  | .closed => 1
  | .keepalive => 2
  | .presence => 3
  | .reopened => 4
  | .restart => 5

def AttentionMask.number : AttentionMask → Nat
  | .all => 0
  | .urgentOnly => 1
  | .none => 2

def PartState.number : PartState → Nat
  | .starting => 0
  | .ready => 1
  | .degraded => 2

def FlashSlot.number : FlashSlot → Nat
  | .a => 0
  | .b => 1

def SpareState.number : SpareState → Nat
  | .stale => 0
  | .erased => 1
  | .writing => 2
  | .committed => 3
  | .damaged => 4

/-- The reason codes of R150. -/
def ImageFault.code : ImageFault → Nat
  | .identifier => 1
  | .marker => 2
  | .length => 3
  | .crc => 4
  | .range => 5
  | .sameLine => 6
  | .group => 7
  | .heir => 8
  | .sequence => 9
  | .fallback => 10
  | .generation => 11

/-- The codes of FLASH_FAILED (R181). -/
def FlashFailure.code : FlashFailure → Nat
  | .deviceBusy => 1
  | .eraseTimeout => 2
  | .eraseVerify => 3
  | .programTimeout => 4
  | .programVerify => 5

/-- The kinds of a flash operation, in the order of 8.3. -/
def FlashWork.number : FlashWork → Nat
  | .read _ _ _ => 0
  | .erase => 1
  | .write _ _ => 2
  | .commit => 3

/-- The causes of BAD_FRAME (R181). -/
def frameFaultCode : FrameFault → Nat
  | .crc => 1
  | .length => 2
  | .short => 3

/-- The causes of BAD_REQUEST (R181). -/
def requestFaultCode : RequestFault → Nat
  | .unknownCode => 1
  | .payloadLength => 2

/-- A target: 00h line or 01h group, then the number (R179). -/
def Target.bytes : Target → List Byte
  | .line l => [0, byteOf l.val]
  | .group g _ => [1, byteOf g.val]

/-- An heir: 00h to 02h, FFh for none (R179). -/
def heirByte : Option Port → Byte
  | some n => byteOf n.val
  | none => 0xFF

/-! ## Outcomes (R182) -/

/-- The code of an outcome. -/
def ReqOutcome.code : ReqOutcome → Byte
  | .ok => 0x00
  | .granted => 0x01
  | .waiting => 0x02
  | .badFrame => 0x10
  | .badRequest => 0x11
  | .badArgument => 0x12
  | .starting => 0x13
  | .degraded => 0x14
  | .noSession => 0x15
  | .staleSession => 0x16
  | .absent => 0x17
  | .noRight => 0x18
  | .notHolder => 0x1A
  | .heldByOther => 0x1B
  | .notFree => 0x1C
  | .alreadyHeld => 0x1D
  | .pinned => 0x1E
  | .lineMoving => 0x1F
  | .lineFaulted => 0x20
  | .inSequence => 0x21
  | .hasTerm => 0x22
  | .interlock => 0x23
  | .noTicket => 0x24
  | .tooLate => 0x25
  | .notFound => 0x26
  | .tableFull => 0x27
  | .violatedNow => 0x28
  | .fixedEntry => 0x29
  | .seqBusy => 0x2A
  | .flashBusy => 0x2B
  | .flashFailed => 0x2C
  | .imageInvalid => 0x2D

/-! ## SNAPSHOT, INSPECT, NOTICES, LIST_INTERLOCKS, STATUS and IDENTIFY -/

/-- R179: two bytes per line of a SNAPSHOT. Bit 7 of the first and bits 3 to 7 of the second are 0, the model's choice
(log 36). -/
def SnapshotEntry.bytes (e : SnapshotEntry) : List Byte :=
  [byteOf (e.state.number + 4 * e.holder.number + 32 * e.fault.number + 64 * bit e.observed),
   byteOf (e.drive.mode + 4 * bit e.drive.level)]

/-- The stage of a line record: 1 of 1, 1 of 2, 2 of 2, numbered in that order (2.1, log 12). -/
def stageByte : Nat × Nat → Byte
  | (1, 1) => 0
  | (1, _) => 1
  | _ => 2

/-- The target and the stage of a move (R3), or their absence. -/
def Move.bytes (m : Move) : List Byte :=
  match m.stages, m.index with
  | .one t, _ => t.bytes ++ [stageByte (1, 1)]
  | .two _ t, .first => t.bytes ++ [stageByte (1, 2)]
  | .two _ t, .second => t.bytes ++ [stageByte (2, 2)]

/-- The static fields (R44); the settle time takes 2 bytes, the model's choice (log 34). -/
def Statics.bytes (x : Statics) : List Byte :=
  [byteOf (bit x.pinned)] ++ bytes16 (BitVec.ofNat 16 x.settle) ++ x.fallback.bytes ++
    [byteOf x.disposition.number, heirByte x.defaultHeir] ++ optional 20 1 (fun g => [byteOf g.val]) x.group

/-- R44: the living fields of 2.1 in order, then the static fields. -/
def Line.bytes (ln : Line) : List Byte :=
  [byteOf ln.state.number, byteOf ln.holder.number] ++ ln.drive.bytes ++ optional 0 3 Move.bytes ln.move ++
    [heirByte ln.heir] ++ optional 3 4 bytes32 ln.term ++ [byteOf (bit ln.termDue), byteOf ln.fault.number] ++
    optional 7 2 Drive.bytes ln.priorDrive ++ optional 9 1 (fun k => [byteOf k.val]) ln.binding ++
    optional 10 1 (fun r => [byteOf r.number]) ln.freeReason ++ [byteOf (bit ln.observed)] ++
    optional 11 9 Statics.bytes ln.statics

/-- The reason of a halt with what it carries (7.3). -/
def HaltReason.number : HaltReason → Nat
  | .interlock _ _ => 0
  | .fault _ => 1
  | .aborted => 2

def HaltReason.detail : HaltReason → List Byte
  | .interlock slot l => [byteOf slot.val, byteOf l.val]
  | .fault l => [byteOf l.val]
  | .aborted => []

/-- The drive-applied marker: yes, no with "refused by", not asked (4.3). -/
def DriveApplied.bytes : DriveApplied → List Byte
  | .yes => [0]
  | .no slot l => [1, byteOf slot.val, byteOf l.val]
  | .notAsked => [2]

/-- The content of a notice, without the index that the item gives before it (7.3, log 13). -/
def NoticeContent.bytes : NoticeContent → List Byte
  | .seqHalted slot step reason t => [byteOf slot.val, byteOf step, byteOf reason.number] ++ bytes32 t ++ reason.detail
  | .lineFaulted t => bytes32 t
  | .lineInherited lost t => byteOf lost.val :: bytes32 t
  | .watchEdge l count stamp level => [byteOf l.val, count] ++ bytes32 stamp ++ [byteOf (bit level)]
  | .agentLost cause t => byteOf cause.number :: bytes32 t
  | .claimGranted target t applied => target.bytes ++ bytes32 t ++ applied.bytes
  | .claimExpired target t => target.bytes ++ bytes32 t
  | .termEnded t => bytes32 t
  | .seqFinished slot t => byteOf slot.val :: bytes32 t

/-- The kinds from 01h SEQ_HALTED to 09h SEQ_FINISHED (R179). -/
def NoticeKind.number : NoticeKind → Nat
  | .seqHalted => 1
  | .lineFaulted => 2
  | .lineInherited => 3
  | .watchEdge => 4
  | .agentLost => 5
  | .claimGranted => 6
  | .claimExpired => 7
  | .termEnded => 8
  | .seqFinished => 9

/-- A field padded with 00h (R179). -/
def padTo (count : Nat) (bytes : List Byte) : List Byte := bytes ++ List.replicate (count - bytes.length) 0

/-- An 11-byte item of NOTICES (R179). -/
def Notice.bytes (x : Notice) : List Byte := [byteOf x.kind.number, byteOf x.index] ++ padTo 9 x.content.bytes

def RuleStatus.number : RuleStatus → Nat
  | .occupied => 0
  | .reserved => 1

/-- The origin in bit 1 and the adding port in bits 2 and 3 (R179). A FIXED rule has no adding port, and bits 2 and 3 are
then 0, the model's choice (log 36). -/
def RuleOrigin.bits : RuleOrigin → Nat
  | .fixed => 0
  | .runtime n => 2 + 4 * n.val

/-- A 6-byte entry of LIST_INTERLOCKS (R179). Bits 4 to 7 of its last byte are 0, the model's choice (log 36). -/
def InterlockEntry.bytes (e : InterlockEntry) : List Byte :=
  [byteOf e.slot.val, byteOf e.rule.x.val, byteOf (bit e.rule.a), byteOf e.rule.y.val, byteOf (bit e.rule.b),
   byteOf (e.status.number + e.origin.bits)]

/-- A slot result: valid and NOT_READ have no code (log 11). -/
def SlotResult.bytes : SlotResult → List Byte
  | .notRead => Config.slotResultByte false :: absent 30 4
  | .valid g => Config.slotResultByte true :: bytes32 g
  | .invalid reason g => byteOf reason.code :: bytes32 g

def FlashOp.bytes (op : FlashOp) : List Byte := [byteOf op.work.number, byteOf op.port.val]

/-- The last flash failure: NONE is 00h, being listed first (8.3, R179), and its line time is then absent. -/
def failureBytes : Option (FlashFailure × LineTime) → List Byte
  | none => 0 :: absent 54 4
  | some p => byteOf p.1.code :: bytes32 p.2

/-- The asking port's session (R166). -/
def OwnSession.bytes (x : OwnSession) : List Byte :=
  [byteOf (bit x.open_.isSome)] ++ bytes16 x.epoch ++ [byteOf x.lastEnd.number] ++
    optional 40 2 (fun p => [byteOf p.1, byteOf p.2.number]) x.open_

/-- R166: the items of STATUS in the order of its table. -/
def StatusReport.bytes (x : StatusReport) : List Byte :=
  [byteOf x.partState.number] ++ optional 50 1 (fun f => [byteOf f.number]) x.loaded ++ bytes32 x.generation ++
    [byteOf x.spare.number, byteOf x.spareState.number] ++ x.resultA.bytes ++ x.resultB.bytes ++
    optional 51 2 FlashOp.bytes x.flashOp ++ failureBytes x.lastFailure ++
    (byteOf x.faulted.length :: x.faulted.flatMap fun p => [byteOf p.1.val, byteOf p.2.number]) ++ x.own.bytes ++
    bytes32 x.at_

/-- R167: the facts of IDENTIFY in the order of its table; the names are 7 and 12 characters (log 11). -/
def Identity.bytes (x : Identity) : List Byte :=
  ((List.range 19).map Config.nameByte) ++
    ([x.designRevision, x.protocolVersion, x.imageFormat, x.lines, x.ports, x.interlockSlots, x.pendingEntries,
      x.ticketsPerSession, x.watchesPerSession, x.wakeWatches, x.sequences, x.sequencerSlots, x.stepsPerSequence,
      x.linesPerSet, x.noticesPerRequest, x.largestPayload].map byteOf) ++ bytes16 (BitVec.ofNat 16 x.flashSlotSize)

/-! ## Payloads -/

/-- The bytes of a response payload (R179, R181). PROFILE_READ's bytes are sent as they are, with no count byte before
them: the request has fixed how many they are, and the spec does not say (log 32). The bytes that a miss count, the numbers that
ACK returns and a generation take are the model's choice (log 34). -/
def Payload.bytes : Payload → List Byte
  | .none => []
  | .frameFault cause => [byteOf (frameFaultCode cause)]
  | .requestFault cause => [byteOf (requestFaultCode cause)]
  | .line l => [byteOf l.val]
  | .interlock slot l => [byteOf slot.val, byteOf l.val]
  | .imageInvalid reason Option.none => [byteOf reason.code]
  | .imageInvalid reason (some (found, required)) => byteOf reason.code :: bytes32 found ++ bytes32 required
  | .flashFailed failure => [byteOf failure.code]
  | .opened epoch lastEnd configure priority presenceUsed =>
    bytes16 epoch ++ [byteOf lastEnd.number, byteOf (bit configure + 2 * bit priority), byteOf (bit presenceUsed)]
  | .closed epoch => bytes16 epoch
  | .ticked t misses => bytes32 t ++ [byteOf misses]
  | .status report => report.bytes
  | .identity facts t => facts.bytes ++ bytes32 t
  | .lineTime t => bytes32 t
  | .waiting ticket arrival => byteOf ticket.val :: bytes32 arrival
  | .snapshot lines t => lines.flatMap SnapshotEntry.bytes ++ bytes32 t
  | .inspect l record remaining t =>
    [byteOf l.val] ++ record.bytes ++ optional 60 4 (fun ms => bytes32 (BitVec.ofNat 32 ms)) remaining ++ bytes32 t
  | .ruleSlot slot => [byteOf slot.val]
  | .interlocks fixed entries => byteOf fixed :: byteOf entries.length :: entries.flatMap InterlockEntry.bytes
  | .sequencerSlot slot => [byteOf slot.val]
  | .watchAdded id filtered t => [byteOf id.val, byteOf (bit filtered)] ++ bytes32 t
  | .notices count more t items => [byteOf count, byteOf (bit more)] ++ bytes32 t ++ items.flatMap Notice.bytes
  | .acked cleared skipped => [byteOf cleared, byteOf skipped]
  | .data bytes => bytes
  | .generation g => bytes32 g

/-! ## The response frame (R169, R175) -/

/-- The flags byte: previous response discarded, later request ignored, attention pending (9.2). -/
def flagsByte (discarded ignored attention : Bool) : Byte := byteOf (bit discarded + 2 * bit ignored + 4 * bit attention)

/-- The frame of a READY response. -/
def Response.frame (r : Response) (attention : Bool) : List Byte :=
  withCrc ([0x01, r.seq, r.reply.outcome.code, flagsByte r.discarded r.ignored attention,
    byteOf r.reply.payload.bytes.length] ++ r.reply.payload.bytes)

/-- The frame that a collect shifts out after the collect byte (R175). -/
def CollectFrame.bytes : CollectFrame → List Byte
  | .response r attention => r.frame attention
  | .notReady seq attention => withCrc [0x02, seq, 0x00, flagsByte false false attention, 0x00]
  | .none lastSeq attention => withCrc [0x03, lastSeq, 0x00, flagsByte false false attention, 0x00]

/-- What the part shifts out outside a response frame, or while the reset pin is low (R168, R169). -/
def idleOut : Byte := 0xFF

/-- The byte that the part shifts out at byte number `i` of a transaction in which `frame` is shifted: FFh at the
collect byte and after the last CRC byte, and in a request transaction (R169). FFh in an ignored transaction, in SKIP,
and after a presence fall has cut a collect's frame is the model's choice (log 31). -/
def shiftedOut (frame : Option CollectFrame) (i : Nat) : Byte :=
  match frame with
  | none => idleOut
  | some f => if i = 0 then idleOut else (f.bytes[i - 1]?).getD idleOut

end Sys2Proof.Machine
end

