-- ==== Sys2Proof/Machine/Port.lean ====
section
/-! DEFINITION. The transactions of an agent port beside the requests: BAD_FRAME, BAD_REQUEST, REQUEST_IGNORED,
COLLECT, RESPONSE_CONSUMED, SELECT_RELEASE and IGNORED_TRANSACTION (9.3 to 9.5). -/

namespace Sys2Proof.Machine

/-! ## Broken frames (R171, R172, R174, R180) -/

/-- The decoder and the byte count after a broken frame is taken: a CRC failure is taken at its last byte, a LENGTH or
SHORT one at the release of select (R171). -/
def brokenEnd (cause : FrameFault) (received : Nat) : Decoder × Nat :=
  match cause with
  | .crc => (.request, received)
  | .length => (.idle, 0)
  | .short => (.idle, 0)

def State.setDecoder (s : State) (n : Port) (p : Decoder × Nat) : State :=
  s.modifyPort n fun r => { r with decoder := p.1, received := p.2 }

/-- R172, R174, R180: a frame that fails the frame check is answered BAD_FRAME, with its sequence byte, or 0 where
none was received. -/
def State.refuseFrame (s : State) (n : Port) (seq : Option Byte) (cause : FrameFault) (received : Nat) : State :=
  ((s.takeFrame n received none).place n (seq.getD 0) (Reply.of .badFrame (.frameFault cause))
    (s.port n).response.isSome false).setDecoder n (brokenEnd cause received)

/-- The decoder after an ignored frame: SKIP until select is released, which a LENGTH or SHORT failure includes. -/
def ignoredEnd : FrameFault → Decoder × Nat
  | .crc => (.skip, 1)
  | .length => (.idle, 0)
  | .short => (.idle, 0)

/-- BAD_FRAME (R171, R180). While a request is in process the frame is ignored (R173). -/
def execBadFrame (n : Port) (seq : Option Byte) (cause : FrameFault) (received : Nat) (s : State) :
    Host.Outcome State Fault Refusal :=
  .next (if s.accepts n then
      if s.inProcess n then (s.ignoreFrame n).setDecoder n (ignoredEnd cause)
      else s.refuseFrame n seq cause received
    else s)

/-- BAD_REQUEST (R180, step 2). It is no keepalive, and is answered so in every part state. -/
def execBadRequest (h : Header) (cause : RequestFault) (length : Byte) (s : State) :
    Host.Outcome State Fault Refusal :=
  .next (s.serve h length.toNat fun t => .done t (Reply.of .badRequest (.requestFault cause)))

/-- REQUEST_IGNORED (R173): the kind byte finds a request in process. Where none is in process, none is ignored
(log 8). -/
def execRequestIgnored (n : Port) (s : State) : Host.Outcome State Fault Refusal :=
  .next (if s.accepts n && s.inProcess n then s.ignoreFrame n else s)

/-! ## Collecting (R175, R176) -/

/-- R175: the frame that a collect byte fixes. -/
def PortRecord.collectFrame (p : PortRecord) (attention : Bool) : CollectFrame :=
  match p.response with
  | some r => .response r attention
  | none =>
    match p.request with
    | some q => .notReady q.seq attention
    | none => .none p.lastSeq attention

/-- R175: the collect byte is received. -/
def State.collect (s : State) (n : Port) : State :=
  s.modifyPort n fun p =>
    { p with decoder := .collect, received := 1, shifting := some (p.collectFrame (s.attention.get n)) }

/-- COLLECT (R175). -/
def execCollect (n : Port) (s : State) : Host.Outcome State Fault Refusal :=
  .next (if s.accepts n then s.collect n else s)

/-- R176: the response being shifted out by a collect on the port. -/
def PortRecord.leaving (p : PortRecord) : Option Response :=
  match p.decoder, p.shifting with
  | .collect, some (.response r _) => some r
  | _, _ => none

/-- R176: the last CRC byte is shifted out: byte number 8 + n of the transaction. -/
def PortRecord.consume (p : PortRecord) (r : Response) : PortRecord :=
  { p with response := none, shifting := none, received := 8 + r.reply.payload.bytes.length }

/-- RESPONSE_CONSUMED (R176). Only a collect of kind RESPONSE consumes anything. -/
def execResponseConsumed (n : Port) (s : State) : Host.Outcome State Fault Refusal :=
  .next (match (s.port n).leaving with
    | none => s
    | some r => s.modifyPort n fun p => p.consume r)

/-! ## The ends of a transaction (R169, R171) -/

/-- R171, R176: select is released: the transaction ends, and nothing of it is consumed. -/
def PortRecord.deselect (p : PortRecord) : PortRecord := { p with decoder := .idle, received := 0, shifting := none }

/-- SELECT_RELEASE (R171, R176). -/
def execSelectRelease (n : Port) (s : State) : Host.Outcome State Fault Refusal :=
  .next (if s.resetLow then s else s.modifyPort n PortRecord.deselect)

/-- IGNORED_TRANSACTION (R169): the first byte is neither A5h nor 5Ch. -/
def execIgnoredTransaction (n : Port) (s : State) : Host.Outcome State Fault Refusal :=
  .next (if s.accepts n then s.setDecoder n (.skip, 1) else s)

end Sys2Proof.Machine
end

