-- ==== Sys2Proof/Machine/Profile.lean ====
section
/-! DEFINITION. STATUS, IDENTIFY, the four flash requests and the ends of their flash work (8.7 and 8.8). -/

namespace Sys2Proof.Machine

/-! ## STATUS and IDENTIFY (R166, R167) -/

/-- R166: every line whose fault is READBACK, in ascending order, with its holder. -/
def State.faultedLines (s : State) : List (LineId × Holder) :=
  (allLines.filter fun l => decide ((s.line l).fault = .readback)).map fun l => (l, (s.line l).holder)

/-- R166: the asking port's session. -/
def State.ownSession (s : State) (n : Port) : OwnSession :=
  { epoch := (s.session n).epoch, lastEnd := (s.session n).lastEnd,
    open_ := (s.live n).map fun v => (v.misses, v.mask) }

/-- R166: what STATUS returns, at the event it is decided. -/
def State.report (s : State) (n : Port) : StatusReport :=
  { partState := s.loader.partState, loaded := s.loader.loaded, generation := s.loader.generation,
    spare := s.loader.spare, spareState := s.loader.spareState, resultA := s.loader.resultA,
    resultB := s.loader.resultB, flashOp := s.loader.flashOp, lastFailure := s.loader.lastFailure,
    faulted := s.faultedLines, own := s.ownSession n, at_ := s.lineTime }

/-- R166: the request-specific part of STATUS. -/
def decideStatus (n : Port) (s : State) : Verdict := .done s (Reply.of .ok (.status (s.report n)))

/-- STATUS (R166). -/
def execStatus (h : Header) (s : State) : Host.Outcome State Fault Refusal :=
  .next (s.serve h 0 (checked h .always .exemptKeepalive .none (some ()) fun _ => decideStatus h.port))

/-- R167: the constant facts of the part. -/
def identityFacts : Identity :=
  { vendor := "Cofurin", part := "Linspan 4803", designRevision := 1, protocolVersion := 1, imageFormat := 1,
    lines := 48, ports := 3, interlockSlots := 32, pendingEntries := 12, ticketsPerSession := 4,
    watchesPerSession := 16, wakeWatches := 8, sequences := 8, sequencerSlots := 2, stepsPerSequence := 16,
    linesPerSet := 16, noticesPerRequest := 20, largestPayload := 240, flashSlotSize := 4096 }

/-- R167: the request-specific part of IDENTIFY. -/
def decideIdentify (s : State) : Verdict := .done s (Reply.of .ok (.identity identityFacts s.lineTime))

/-- IDENTIFY (R167). -/
def execIdentify (h : Header) (s : State) : Host.Outcome State Fault Refusal :=
  .next (s.serve h 0 (checked h .always .exemptKeepalive .none (some ()) fun _ => decideIdentify))

/-! ## Flash requests (R160) -/

/-- R160: the one request-specific test, and the acceptance of a flash request. -/
def decideFlash (n : Port) (work : FlashWork) (s : State) : Verdict :=
  match s.loader.flashOp with
  | some _ => .done s (Reply.bare .flashBusy)
  | none => .accepted (s.modifyLoader fun r => { r with flashOp := some { work := work, port := n, began := s.lineTime } })

/-- A flash request of `length` payload bytes taken on its port: it needs the configure right and is served in READY
and DEGRADED (R160). -/
def State.serveFlash (s : State) (h : Header) (length : Nat) (work : Option FlashWork) : State :=
  s.serve h length (checked h .exceptStarting .required .configure work (decideFlash h.port))

/-- PROFILE_READ (R160, R164). -/
def execProfileRead (h : Header) (slot : Byte) (offset : BitVec 16) (length : Byte) (s : State) :
    Host.Outcome State Fault Refusal :=
  .next (s.serveFlash h 4 (readArgs slot offset length))

/-- PROFILE_ERASE (R160, R161). -/
def execProfileErase (h : Header) (s : State) : Host.Outcome State Fault Refusal :=
  .next (s.serveFlash h 0 (some .erase))

/-- PROFILE_WRITE (R160, R162). -/
def execProfileWrite (h : Header) (offset : BitVec 16) (data : List Byte) (s : State) :
    Host.Outcome State Fault Refusal :=
  .next (s.serveFlash h (2 + data.length) (writeArgs offset data))

/-- PROFILE_COMMIT (R160, R163). -/
def execProfileCommit (h : Header) (s : State) : Host.Outcome State Fault Refusal :=
  .next (s.serveFlash h 0 (some .commit))

/-! ## The end of flash work (R160, R165) -/

/-- R160, R172 to R174: the response of a flash request is placed on its port with the markers of the request slot, and
the placement is a keepalive (R95). A port whose request a presence fall has cleared gets neither (R165, R178). -/
def State.answerFlash (s : State) (n : Port) (reply : Reply) : State :=
  match (s.port n).request with
  | none => s
  | some r =>
    ((s.modifyPort n fun p => { p with request := none }).place n r.seq reply r.discarded r.ignored).keepalive n

/-- R160: the flash work of an operation ends: the operation is removed and its outcome placed. -/
def State.endFlash (s : State) (op : FlashOp) (reply : Reply) : State :=
  (s.modifyLoader fun r => { r with flashOp := none }).answerFlash op.port reply

def State.setFlash (s : State) (m : List Host.Cell) : State := { s with flash := m }

def State.setSpare (s : State) (x : SpareState) : State := s.modifyLoader fun r => { r with spareState := x }

/-- R160 to R163: a flash request ends FLASH_FAILED, and the last flash failure is written. -/
def State.failFlash (s : State) (op : FlashOp) (failure : FlashFailure) : State :=
  (s.modifyLoader fun r => { r with lastFailure := some (failure, s.lineTime) }).endFlash op
    (Reply.of .flashFailed (.flashFailed failure))

/-- R161 to R163: FLASH_FAILED with the spare DAMAGED. -/
def State.damage (s : State) (op : FlashOp) (failure : FlashFailure) : State :=
  (s.setSpare .damaged).failFlash op failure

/-- The flash after a device has left the bytes `left` among those that the work can change in the spare (log 9). -/
def State.leave (s : State) (op : FlashOp) (m : List Host.Cell) (left : FlashCells) : State :=
  s.setFlash (Memory.leave m s.loader.spare op.work.touches left)

/-- R161 to R163: the flash operation in progress, where a command that it sent to the flash at line time `sent` is
`limit` ms old. The command was sent no earlier than the operation began (log 10). -/
def State.waitedOut (s : State) (sent : LineTime) (limit : Nat) : Option FlashOp :=
  s.loader.flashOp.bind fun op =>
    if notBefore sent op.began ∧ s.lineTime = sent + BitVec.ofNat 32 (limit * 1000) then some op else none

/-! ### Erase (R161) -/

/-- R161: the read-back of an erased slot: every byte is FFh. -/
def Memory.allErased (m : List Host.Cell) (slot : FlashSlot) : Bool :=
  (Memory.readRange m slot.base slotSize).all fun b => b == erasedByte

/-- R161: the end of an erase and its read-back. -/
def State.endErase (s : State) (op : FlashOp) (left : FlashCells) : State :=
  let t := s.leave op (runCommands (eraseCommands s.loader.spare) s.flash) left
  if Memory.allErased t.flash t.loader.spare then (t.setSpare .erased).endFlash op (Reply.bare .ok)
  else t.damage op .eraseVerify

/-- ERASE_END (R161). Where no erase is in progress there is none to end. -/
def execEraseEnd (left : FlashCells) (s : State) : Host.Outcome State Fault Refusal :=
  .next (match s.loader.flashOp with
    | none => s
    | some op =>
      match op.work with
      | .erase => s.endErase op left
      | .read .. => s
      | .write .. => s
      | .commit => s)

/-- R161: how long the part waits for an erase: 400 ms. -/
def eraseLimit : Nat := 400

/-- R161: the erase is still in progress after 400 ms. -/
def State.timeoutErase (s : State) (op : FlashOp) (left : FlashCells) : State :=
  (s.leave op s.flash left).damage op .eraseTimeout

/-- ERASE_TIMEOUT (R161). It acts 400 ms after the erase command was sent (log 10). -/
def execEraseTimeout (wait : FlashWait) (s : State) : Host.Outcome State Fault Refusal :=
  .next (match s.waitedOut wait.sent eraseLimit with
    | none => s
    | some op =>
      match op.work with
      | .erase => s.timeoutErase op wait.left
      | .read .. => s
      | .write .. => s
      | .commit => s)

/-! ### Write (R162) -/

/-- R162: the end of a write and its read-back. -/
def State.endWrite (s : State) (op : FlashOp) (offset : Nat) (data : List Byte) (left : FlashCells) : State :=
  let first := s.loader.spare.base + offset
  let t := s.leave op (runCommands (programCommands first data) s.flash) left
  if Memory.readRange t.flash first data.length = data then (t.setSpare .writing).endFlash op (Reply.bare .ok)
  else t.damage op .programVerify

/-- WRITE_END (R162). -/
def execWriteEnd (left : FlashCells) (s : State) : Host.Outcome State Fault Refusal :=
  .next (match s.loader.flashOp with
    | none => s
    | some op =>
      match op.work with
      | .write offset data => s.endWrite op offset data left
      | .read .. => s
      | .erase => s
      | .commit => s)

/-! ### Commit (R163) -/

/-- R163: the spare checked for a commit. -/
def State.checkCommit (s : State) : Except ImageFault Image :=
  checkImage (.commit s.loader.generation) (s.slotByte s.loader.spare)

/-- R163: the commit marker of the spare, at offset 5. -/
def State.spareMarker (s : State) : Byte := s.slotByte s.loader.spare 5

/-- The commit marker of a committed image (8.2). -/
def committedMarker : Byte := 0x5A

/-- R163: the generation required: the loaded generation plus 1, which does not wrap (log 27). -/
def State.requiredGeneration (s : State) : BitVec 32 :=
  if s.loader.generation = 0xFFFFFFFF then Config.unmetGeneration else s.loader.generation + 1

/-- R163, R181: the refusal of an image, with the generations where the reason is GENERATION. -/
def State.imageRefusal (s : State) (reason : ImageFault) : Reply :=
  Reply.of .imageInvalid (.imageInvalid reason
    (if reason = .generation then some (s.slotGeneration s.loader.spare, s.requiredGeneration) else none))

/-- R163: the commit ends OK with the committed generation. -/
def State.committed (s : State) (op : FlashOp) : State :=
  (s.setSpare .committed).endFlash op (Reply.of .ok (.generation (s.slotGeneration s.loader.spare)))

/-- R163: the marker is programmed at offset 5 and read back. -/
def State.programMarker (s : State) (op : FlashOp) (left : FlashCells) : State :=
  let t := s.leave op (runCommands (programCommands (s.loader.spare.base + 5) [committedMarker]) s.flash) left
  if t.spareMarker = committedMarker then t.committed op else t.damage op .programVerify

/-- R163: the end of a commit. -/
def State.endCommit (s : State) (op : FlashOp) (left : FlashCells) : State :=
  match s.checkCommit with
  | .error reason => s.endFlash op (s.imageRefusal reason)
  | .ok _ => if s.spareMarker = committedMarker then s.committed op else s.programMarker op left

/-- COMMIT_END (R163). -/
def execCommitEnd (left : FlashCells) (s : State) : Host.Outcome State Fault Refusal :=
  .next (match s.loader.flashOp with
    | none => s
    | some op =>
      match op.work with
      | .commit => s.endCommit op left
      | .read .. => s
      | .erase => s
      | .write .. => s)

/-! ### A program that does not end (R162, R163) -/

/-- A commit programs the marker: its image passes, and the marker is still FFh (R163). -/
def State.programsMarker (s : State) : Bool :=
  match s.checkCommit with
  | .error _ => false
  | .ok _ => decide (s.spareMarker ≠ committedMarker)

/-- R162, R163: how long the part waits for a page program: 5 ms. -/
def programLimit : Nat := 5

/-- R162, R163: a page program is still busy after 5 ms. -/
def State.timeoutProgram (s : State) (op : FlashOp) (left : FlashCells) : State :=
  (s.leave op s.flash left).damage op .programTimeout

/-- PROGRAM_TIMEOUT (R162, R163). It acts 5 ms after the page program was sent (log 10). A commit that programs nothing
has no program to time out (log 6). -/
def execProgramTimeout (wait : FlashWait) (s : State) : Host.Outcome State Fault Refusal :=
  .next (match s.waitedOut wait.sent programLimit with
    | none => s
    | some op =>
      match op.work with
      | .write .. => s.timeoutProgram op wait.left
      | .commit => if s.programsMarker then s.timeoutProgram op wait.left else s
      | .read .. => s
      | .erase => s)

/-! ### Read (R164) -/

/-- READ_END (R164): the bytes, as the slot holds them. -/
def execReadEnd (s : State) : Host.Outcome State Fault Refusal :=
  .next (match s.loader.flashOp with
    | none => s
    | some op =>
      match op.work with
      | .read slot offset length =>
        s.endFlash op (Reply.of .ok (.data (Memory.readRange s.flash (slot.base + offset) length)))
      | .erase => s
      | .write .. => s
      | .commit => s)

/-! ### A busy flash (R160) -/

/-- FLASH_STATUS_BUSY (R160): any flash request ends at its opening status read; the spare state is not changed. -/
def execFlashStatusBusy (s : State) : Host.Outcome State Fault Refusal :=
  .next (match s.loader.flashOp with
    | none => s
    | some op => s.failFlash op .deviceBusy)

end Sys2Proof.Machine
end

