-- ==== Sys2Proof/Machine/Dispatch.lean ====
section
/-! DEFINITION. One arm per command, each a direct call of its meaning. -/

namespace Sys2Proof.Machine

/-- The meaning of a command. -/
def exec (i : Instr) (s : State) : Host.Outcome State Fault Refusal :=
  match i with
  | .openSession h p l m v => Sys2Proof.Machine.execOpen h p l m v s
  | .closeSession h => Sys2Proof.Machine.execClose h s
  | .tick h => Sys2Proof.Machine.execTick h s
  | .setMask h m => Sys2Proof.Machine.execSetMask h m s
  | .status h => Sys2Proof.Machine.execStatus h s
  | .identify h => Sys2Proof.Machine.execIdentify h s
  | .claim h t p e d u => Sys2Proof.Machine.execClaim h t p e d u s
  | .cancel h t => Sys2Proof.Machine.execCancel h t s
  | .release h t => Sys2Proof.Machine.execRelease h t s
  | .setDrives h es => Sys2Proof.Machine.execSet h es s
  | .setHeir h l a => Sys2Proof.Machine.execSetHeir h l a s
  | .extend h t e => Sys2Proof.Machine.execExtend h t e s
  | .clearFault h l => Sys2Proof.Machine.execClearFault h l s
  | .snapshot h => Sys2Proof.Machine.execSnapshot h s
  | .inspect h l => Sys2Proof.Machine.execInspect h l s
  | .addInterlock h x a y b => Sys2Proof.Machine.execAddInterlock h x a y b s
  | .dropInterlock h k => Sys2Proof.Machine.execDropInterlock h k s
  | .listInterlocks h => Sys2Proof.Machine.execListInterlocks h s
  | .storeSequence h q ss => Sys2Proof.Machine.execStoreSequence h q ss s
  | .dropSequence h q => Sys2Proof.Machine.execDropSequence h q s
  | .runSequence h q => Sys2Proof.Machine.execRun h q s
  | .abortRun h k => Sys2Proof.Machine.execAbort h k s
  | .addWatch h l e f u => Sys2Proof.Machine.execAddWatch h l e f u s
  | .dropWatch h id => Sys2Proof.Machine.execDropWatch h id s
  | .notices h => Sys2Proof.Machine.execNotices h s
  | .ack h ids => Sys2Proof.Machine.execAck h ids s
  | .profileRead h f o n => Sys2Proof.Machine.execProfileRead h f o n s
  | .profileErase h => Sys2Proof.Machine.execProfileErase h s
  | .profileWrite h o d => Sys2Proof.Machine.execProfileWrite h o d s
  | .profileCommit h => Sys2Proof.Machine.execProfileCommit h s
  | .restart h => Sys2Proof.Machine.execRestart h s
  | .badFrame n q c r => Sys2Proof.Machine.execBadFrame n q c r s
  | .badRequest h c n => Sys2Proof.Machine.execBadRequest h c n s
  | .requestIgnored n => Sys2Proof.Machine.execRequestIgnored n s
  | .collect n => Sys2Proof.Machine.execCollect n s
  | .responseConsumed n => Sys2Proof.Machine.execResponseConsumed n s
  | .presenceFall n m => Sys2Proof.Machine.execPresenceFall n m s
  | .resetLow left => Sys2Proof.Machine.execResetLow left s
  | .resetRelease v left => Sys2Proof.Machine.execResetRelease v left s
  | .loadEnd => Sys2Proof.Machine.execLoadEnd s
  | .loadStatusTimeout => Sys2Proof.Machine.execLoadStatusTimeout s
  | .observedLevelChange l v => Sys2Proof.Machine.execObservedLevelChange l v s
  | .stageEnd l => Sys2Proof.Machine.execStageEnd l s
  | .readbackDeadline l => Sys2Proof.Machine.execReadbackDeadline l s
  | .termDeadline l => Sys2Proof.Machine.execTermDeadline l s
  | .patienceDeadline n t => Sys2Proof.Machine.execPatienceDeadline n t s
  | .periodDeadline n => Sys2Proof.Machine.execPeriodDeadline n s
  | .holdDeadline k => Sys2Proof.Machine.execHoldDeadline k s
  | .filterDeadline n id => Sys2Proof.Machine.execFilterDeadline n id s
  | .wakeFilterDeadline k => Sys2Proof.Machine.execWakeFilterDeadline k s
  | .eraseEnd left => Sys2Proof.Machine.execEraseEnd left s
  | .eraseTimeout wait => Sys2Proof.Machine.execEraseTimeout wait s
  | .writeEnd left => Sys2Proof.Machine.execWriteEnd left s
  | .programTimeout wait => Sys2Proof.Machine.execProgramTimeout wait s
  | .commitEnd left => Sys2Proof.Machine.execCommitEnd left s
  | .readEnd => Sys2Proof.Machine.execReadEnd s
  | .selectRelease n => Sys2Proof.Machine.execSelectRelease n s
  | .ignoredTransaction n => Sys2Proof.Machine.execIgnoredTransaction n s
  | .flashStatusBusy => Sys2Proof.Machine.execFlashStatusBusy s

end Sys2Proof.Machine
end

