-- ==== Sys2Proof/Machine/Step.lean ====
section
/-! DEFINITION. One step: the command at the front of the queue; where none waits, the part's own clock. -/

namespace Sys2Proof.Machine

/-- What the part does when no command waits: nothing while the reset pin is low (R128); else a deadline that is due is
taken, or a microsecond passes (R129, logs 4 and 5). -/
def idle (s : State) : Host.Outcome State Fault Refusal :=
  if s.resetLow then .next s
  else
    match s.nextDue with
    | none => .next s.pass
    | some (c, s') => exec c s'

/-- One step. -/
def step (s : State) : Host.Outcome State Fault Refusal :=
  match s.pending with
  | c :: rest => exec c { s with pending := rest }
  | [] => idle s

/-- The command that a table word spells at the front of the queue; the table spells none (log 22). -/
def State.withFetchWord (s : State) (nbits w : Nat) : State :=
  match decodeTableWord nbits w with
  | none => s
  | some c => { s with pending := c :: s.pending }

end Sys2Proof.Machine
end

