-- ==== Sys2Proof/Machine/Frame.lean ====
section
/-! DEFINITION. From the bytes of one transaction on an agent port to the command of it: the first byte, the frame check,
the request codes and the payload layouts (R169, R170, R171, R173, R179, R180 steps 1 and 2, R182). It stands before the
queue: a whole transaction gives one command, or none, and the release of select that follows is a command of its own
(log 7). -/

namespace Sys2Proof.Machine

/-! ## Payloads of requests (R179, R182) -/

def word16 (lo hi : Byte) : BitVec 16 := hi ++ lo

def word32 (b0 b1 b2 b3 : Byte) : BitVec 32 := b3 ++ b2 ++ b1 ++ b0

/-- The drive entries of SET, 3 bytes each; none where the length is not a multiple of 3. -/
def parseEntries : List Byte → Option (List RawSetEntry)
  | [] => some []
  | l :: m :: v :: rest => (parseEntries rest).map fun es => { line := l, drive := { mode := m, level := v } } :: es
  | _ :: _ => none

/-- The steps of STORE_SEQUENCE, 5 bytes each. -/
def parseSteps : List Byte → Option (List RawStep)
  | [] => some []
  | l :: m :: v :: h0 :: h1 :: rest =>
    (parseSteps rest).map fun ss => { line := l, drive := { mode := m, level := v }, hold := word16 h0 h1 } :: ss
  | _ :: _ => none

/-- The identifiers of ACK, 2 bytes each. -/
def parseIds : List Byte → Option (List RawNoticeId)
  | [] => some []
  | k :: i :: rest => (parseIds rest).map fun ids => { kind := k, index := i } :: ids
  | _ :: _ => none

/-- A request that carries no argument. -/
def parseNone (i : Instr) : List Byte → Option Instr
  | [] => some i
  | _ :: _ => none

/-- A request that carries one byte. -/
def parseByte (i : Byte → Instr) : List Byte → Option Instr
  | [a] => some (i a)
  | _ => none

def parseOpen (h : Header) (sensed : Level) : List Byte → Option Instr
  | [p0, p1, m, k] => some (.openSession h (word16 p0 p1) m k sensed)
  | _ => none

def parseClaim (h : Header) : List Byte → Option Instr
  | [t, n, p0, p1, e0, e1, e2, e3, m, v, u] =>
    some (.claim h { kind := t, number := n } (word16 p0 p1) (word32 e0 e1 e2 e3) { mode := m, level := v } u)
  | _ => none

def parseRelease (h : Header) : List Byte → Option Instr
  | [t, n] => some (.release h { kind := t, number := n })
  | _ => none

def parseSetHeir (h : Header) : List Byte → Option Instr
  | [l, a] => some (.setHeir h l a)
  | _ => none

def parseExtend (h : Header) : List Byte → Option Instr
  | [t, n, e0, e1, e2, e3] => some (.extend h { kind := t, number := n } (word32 e0 e1 e2 e3))
  | _ => none

def parseAddInterlock (h : Header) : List Byte → Option Instr
  | [x, a, y, b] => some (.addInterlock h x a y b)
  | _ => none

def parseStore (h : Header) : List Byte → Option Instr
  | q :: rest => (parseSteps rest).map fun ss => .storeSequence h q ss
  | [] => none

def parseAddWatch (h : Header) : List Byte → Option Instr
  | [l, e, f0, f1, u] => some (.addWatch h l e (word16 f0 f1) u)
  | _ => none

def parseProfileRead (h : Header) : List Byte → Option Instr
  | [f, o0, o1, n] => some (.profileRead h f (word16 o0 o1) n)
  | _ => none

def parseProfileWrite (h : Header) : List Byte → Option Instr
  | o0 :: o1 :: data => some (.profileWrite h (word16 o0 o1) data)
  | _ => none

/-- R182: the request of a code, given its payload: none where the code is unknown; `some none` where the code does not
allow the payload's length. -/
def requestOf (h : Header) (sensed : Level) (code : Byte) (payload : List Byte) : Option (Option Instr) :=
  match code.toNat with
  | 0x01 => some (parseOpen h sensed payload)
  | 0x02 => some (parseNone (.closeSession h) payload)
  | 0x03 => some (parseNone (.tick h) payload)
  | 0x04 => some (parseByte (.setMask h) payload)
  | 0x05 => some (parseNone (.status h) payload)
  | 0x06 => some (parseNone (.identify h) payload)
  | 0x10 => some (parseClaim h payload)
  | 0x11 => some (parseByte (.cancel h) payload)
  | 0x12 => some (parseRelease h payload)
  | 0x13 => some ((parseEntries payload).map (.setDrives h))
  | 0x14 => some (parseSetHeir h payload)
  | 0x15 => some (parseExtend h payload)
  | 0x16 => some (parseByte (.clearFault h) payload)
  | 0x17 => some (parseNone (.snapshot h) payload)
  | 0x18 => some (parseByte (.inspect h) payload)
  | 0x20 => some (parseAddInterlock h payload)
  | 0x21 => some (parseByte (.dropInterlock h) payload)
  | 0x22 => some (parseNone (.listInterlocks h) payload)
  | 0x28 => some (parseStore h payload)
  | 0x29 => some (parseByte (.dropSequence h) payload)
  | 0x2A => some (parseByte (.runSequence h) payload)
  | 0x2B => some (parseByte (.abortRun h) payload)
  | 0x30 => some (parseAddWatch h payload)
  | 0x31 => some (parseByte (.dropWatch h) payload)
  | 0x32 => some (parseNone (.notices h) payload)
  | 0x33 => some ((parseIds payload).map (.ack h))
  | 0x38 => some (parseProfileRead h payload)
  | 0x39 => some (parseNone (.profileErase h) payload)
  | 0x3A => some (parseProfileWrite h payload)
  | 0x3B => some (parseNone (.profileCommit h) payload)
  | 0x3C => some (parseNone (.restart h) payload)
  | _ => none

/-- R180, step 2: a complete frame is its request, or BAD_REQUEST with its cause. -/
def judgeRequest (h : Header) (sensed : Level) (code : Byte) (payload : List Byte) : Instr :=
  match requestOf h sensed code payload with
  | none => .badRequest h .unknownCode (byteOf payload.length)
  | some none => .badRequest h .payloadLength (byteOf payload.length)
  | some (some i) => i

/-! ## Frames and transactions (R169, R171, R173) -/

/-- R171, R180, step 1: the bytes of a request transaction on a port with no request in process, released after the
last of them. -/
def judgeFrame (n : Port) (sensed : Level) : List Byte → Instr
  | kind :: seq :: tag :: code :: length :: rest =>
    if 240 < length.toNat then .badFrame n (some seq) .length (min (5 + rest.length) 247)
    else if rest.length < length.toNat + 2 then .badFrame n (some seq) .short (5 + rest.length)
    else
      let payload := rest.take length.toNat
      if crcBytes (crc16 (kind :: seq :: tag :: code :: length :: payload)) = (rest.drop length.toNat).take 2 then
        judgeRequest { port := n, seq := seq, tag := tag } sensed code payload
      else .badFrame n (some seq) .crc (7 + length.toNat)
  | bytes => .badFrame n bytes[1]? .short bytes.length

/-- R169, R171, R173: the command of a transaction with these bytes, given whether a request was in process on the port
at its first byte; none where no byte was complete. -/
def judgeTransaction (n : Port) (inProcess : Bool) (sensed : Level) : List Byte → Option Instr
  | [] => none
  | kind :: rest =>
    if kind = 0xA5 then some (if inProcess then .requestIgnored n else judgeFrame n sensed (kind :: rest))
    else if kind = 0x5C then some (.collect n)
    else some (.ignoredTransaction n)

/-! ## The frame of a request (R169, R179, R182) -/

def RawTarget.bytes (t : RawTarget) : List Byte := [t.kind, t.number]

def RawDrive.bytes (d : RawDrive) : List Byte := [d.mode, d.level]

def entryBytes (e : RawSetEntry) : List Byte := e.line :: RawDrive.bytes e.drive

def stepBytes (st : RawStep) : List Byte := st.line :: RawDrive.bytes st.drive ++ bytes16 st.hold

def idBytes (x : RawNoticeId) : List Byte := [x.kind, x.index]

/-- The header, request code and payload of a request command; none for the other commands. -/
def requestParts : Instr → Option (Header × Byte × List Byte)
  | .openSession h period limit mask _ => some (h, 0x01, bytes16 period ++ [limit, mask])
  | .closeSession h => some (h, 0x02, [])
  | .tick h => some (h, 0x03, [])
  | .setMask h mask => some (h, 0x04, [mask])
  | .status h => some (h, 0x05, [])
  | .identify h => some (h, 0x06, [])
  | .claim h target patience term drive urgency =>
    some (h, 0x10, RawTarget.bytes target ++ bytes16 patience ++ bytes32 term ++ RawDrive.bytes drive ++ [urgency])
  | .cancel h ticket => some (h, 0x11, [ticket])
  | .release h target => some (h, 0x12, RawTarget.bytes target)
  | .setDrives h entries => some (h, 0x13, entries.flatMap entryBytes)
  | .setHeir h line heir => some (h, 0x14, [line, heir])
  | .extend h target term => some (h, 0x15, RawTarget.bytes target ++ bytes32 term)
  | .clearFault h line => some (h, 0x16, [line])
  | .snapshot h => some (h, 0x17, [])
  | .inspect h line => some (h, 0x18, [line])
  | .addInterlock h x a y b => some (h, 0x20, [x, a, y, b])
  | .dropInterlock h slot => some (h, 0x21, [slot])
  | .listInterlocks h => some (h, 0x22, [])
  | .storeSequence h number steps => some (h, 0x28, number :: steps.flatMap stepBytes)
  | .dropSequence h number => some (h, 0x29, [number])
  | .runSequence h number => some (h, 0x2A, [number])
  | .abortRun h slot => some (h, 0x2B, [slot])
  | .addWatch h line edge filter urgency => some (h, 0x30, [line, edge] ++ bytes16 filter ++ [urgency])
  | .dropWatch h id => some (h, 0x31, [id])
  | .notices h => some (h, 0x32, [])
  | .ack h ids => some (h, 0x33, ids.flatMap idBytes)
  | .profileRead h slot offset length => some (h, 0x38, [slot] ++ bytes16 offset ++ [length])
  | .profileErase h => some (h, 0x39, [])
  | .profileWrite h offset data => some (h, 0x3A, bytes16 offset ++ data)
  | .profileCommit h => some (h, 0x3B, [])
  | .restart h => some (h, 0x3C, [])
  | .badFrame .. | .badRequest .. | .requestIgnored _ | .collect _ | .responseConsumed _ | .presenceFall ..
  | .resetLow _ | .resetRelease .. | .loadEnd | .loadStatusTimeout | .observedLevelChange .. | .stageEnd _
  | .readbackDeadline _ | .termDeadline _ | .patienceDeadline .. | .periodDeadline _ | .holdDeadline _
  | .filterDeadline .. | .wakeFilterDeadline _ | .eraseEnd _ | .eraseTimeout _ | .writeEnd _ | .programTimeout _
  | .commitEnd _ | .readEnd | .selectRelease _ | .ignoredTransaction _ | .flashStatusBusy => none

/-- R169: the request frame with these parts. -/
def requestFrame (p : Header × Byte × List Byte) : List Byte :=
  withCrc ([0xA5, p.1.seq, p.1.tag, p.2.1, byteOf p.2.2.length] ++ p.2.2)

end Sys2Proof.Machine
end

