-- ==== Sys2Proof/Safety.lean ====
section
/-! DEFINITION. What a safe step is, and the laws of the part that every step is to keep, each with the rule that states
it. -/

namespace Sys2Proof

/-- The outcome is a next state. -/
def Safe {σ φ ρ : Type} : Host.Outcome σ φ ρ → Prop
  | .next _ => True
  | .fault _ => False
  | .refused _ => False

/-- The step from `s` is safe: the part stops nowhere, so a fault or a refusal would be a failure of the model. -/
def StepSafe (s : Machine.State) : Prop := Safe (Machine.step s)

namespace Machine

/-! ## Lines (R23, R24) -/

/-- R1, R23 and R24: the relations in which the fields of one line record stand. -/
abbrev Line.Coherent (ln : Line) : Prop :=
  (ln.move.isSome = true ↔ ln.state = .moving ∨ ln.state = .releasing) ∧
  (ln.freeReason.isSome = true ↔ ln.state = .free ∨ ln.state = .releasing) ∧
  (ln.priorDrive.isSome = true ↔ ln.fault = .readback) ∧
  (ln.termDue = true → ln.state = .moving ∧ ln.term.isSome = true) ∧
  (∀ n : Port, ln.holder = .agent n → ln.heir ≠ some n) ∧
  (ln.holder ≠ .none ↔ ln.state = .held ∨ ln.state = .moving) ∧
  (ln.keeper.isSome = true ↔ ln.drive = .keep false ∨ ln.drive = .keep true)

/-- R113: a bound line belongs to the run of its slot, is held by the runner and carries no term; a run binds every line
of its sequence. -/
abbrev State.BindingsSound (s : State) : Prop :=
  (∀ l : LineId, ∀ k ∈ (s.line l).binding,
    (s.line l).term = none ∧ ∃ r ∈ s.run k, (s.line l).holder = .agent r.agent ∧ l ∈ s.lineSet r.sequence) ∧
  (∀ k : SlotId, ∀ r ∈ s.run k, ∀ l ∈ s.lineSet r.sequence, (s.line l).binding = some k)

/-- R24, R47, R113: in STARTING every line is FREE and no run exists; a load is in progress only then (R152). -/
abbrev State.StartingSound (s : State) : Prop :=
  (s.loader.load.isSome = true → s.partState = .starting) ∧
  (s.partState = .starting → (∀ l : LineId, (s.line l).state = .free) ∧ ∀ k : SlotId, s.run k = none)

/-- The laws of R23, R24 and R113, with what STARTING adds to them. -/
abbrev State.Coherent (s : State) : Prop :=
  (∀ l : LineId, (s.line l).Coherent) ∧ s.BindingsSound ∧ s.StartingSound

/-! ## Holders (R38, R87) -/

/-- R38: every line held by an agent belongs to an agent whose session is OPEN; R87: so does every waiting claim. -/
abbrev State.HoldersOpen (s : State) : Prop :=
  (∀ l : LineId, ∀ n : Port, (s.line l).holder = .agent n → s.isOpen n = true) ∧
  (∀ e ∈ s.pendingList, s.isOpen e.agent = true)

/-! ## Interlocks (R51, R65) -/

/-- The slot holds no OCCUPIED rule that the sets match. -/
def InterlockSlot.unmatched (slot : InterlockSlot) (sets : LineId → Levels) : Bool :=
  match slot with
  | .rule r .occupied _ => !r.matchedBy sets
  | .rule _ .reserved _ => true
  | .empty => true

/-- R51: no interlock rule in the table is matched by the assertion set. -/
abbrev State.RulesHold (s : State) : Prop := ∀ k : RuleSlot, (s.ruleAt k).unmatched s.assertion = true

/-- R20, R45: from a reset to the end of its load every pad stands in FLOAT. -/
abbrev State.StartFloating (s : State) : Prop :=
  ∀ r ∈ s.loader.load, r.restart = false → ∀ l : LineId, (s.line l).drive = .float

/-! ## Attention (R142) -/

/-- R142: each attention output stands where its session's pending notices and mask put it. -/
abbrev State.AttentionSound (s : State) : Prop := ∀ n : Port, s.attention.get n = s.attentionDue n

/-! ## Wake outputs and wake watches (R143, R144, R146) -/

/-- R146: wake output n is asserted only while port n has no open session; R144: a wake watch is active exactly while its
target port has none; R155: no session is open in STARTING, and a load is in progress only then (R152). -/
abbrev State.WakesSound (s : State) : Prop :=
  (∀ n : Port, s.wakeOut.get n = true → s.isOpen n = false) ∧
  (∀ w ∈ s.wakeWatches, w.view.isSome = true ↔ s.isOpen w.target = false) ∧
  (s.loader.load.isSome = true → s.partState = .starting) ∧
  (s.partState = .starting → ∀ n : Port, s.isOpen n = false)

/-! ## The flash -/

/-- The bytes that a flash request works on lie in its slot (R162, R164). -/
def FlashWork.inSlot : FlashWork → Bool
  | .read _ offset length => decide (offset + length ≤ slotSize)
  | .erase => true
  | .write offset data => decide (offset + data.length ≤ slotSize)
  | .commit => true

/-- The flash bytes are in canonical form and lie in the two slots (8.1), and the operation in progress keeps to its
slot. -/
abbrev State.FlashSound (s : State) : Prop :=
  Memory.wf s.flash = true ∧ (∀ c ∈ s.flash, c.1 < 2 * slotSize) ∧ ∀ op ∈ s.loader.flashOp, op.work.inSlot = true

/-! ## Ports (R168, R172) -/

/-- R168: a request slot is IN_PROCESS only while a flash request accepted on that port is in process, and the response
slot is then EMPTY. -/
abbrev State.PortsSound (s : State) : Prop :=
  ∀ n : Port, (s.port n).request.isSome = true →
    (s.port n).response = none ∧ s.loader.flashOp.map (·.port) = some n

end Machine

end Sys2Proof
end

