-- ==== Sys2Proof/WellFormed.lean ====
section
/-! DEFINITION. Which commands the wire and the pins can produce: a payload is at most 240 bytes (9.2), what BAD_FRAME
carries agrees with its cause (R171), and flash offsets lie in a slot (R147). exec is total on the others too. -/

namespace Sys2Proof

/-- Every offset lies in a slot of 4,096 bytes (R147). -/
def FlashCells.inSlot (cells : FlashCells) : Bool := cells.all (fun c => decide (c.1 < 4096))

/-- What a broken transaction can have received, by cause (R171): a CRC failure needs a whole frame, a LENGTH failure
the length byte, a SHORT one at least the kind byte; a sequence byte is there from the second byte on. -/
def FrameFault.agrees (cause : FrameFault) (seq : Option Byte) (received : Nat) : Bool :=
  (seq.isSome == decide (2 ≤ received)) && decide (received ≤ 247) &&
    match cause with
    | .crc => decide (7 ≤ received)
    | .length => decide (5 ≤ received)
    | .short => decide (1 ≤ received) && decide (received ≤ 246)

/-- The well-formedness check of a command. -/
def Instr.wellFormed : Instr → Bool
  | .setDrives _ entries => decide (entries.length ≤ 80)
  | .storeSequence _ _ steps => decide (steps.length ≤ 47)
  | .ack _ ids => decide (ids.length ≤ 120)
  | .profileWrite _ _ data => decide (data.length ≤ 238)
  | .badFrame _ seq cause received => cause.agrees seq received
  | .badRequest _ _ length => decide (length.toNat ≤ 240)
  | .resetLow left => FlashCells.inSlot left
  | .resetRelease _ left => FlashCells.inSlot left
  | .eraseEnd left => FlashCells.inSlot left
  | .eraseTimeout wait => FlashCells.inSlot wait.left
  | .writeEnd left => FlashCells.inSlot left
  | .programTimeout wait => FlashCells.inSlot wait.left
  | .commitEnd left => FlashCells.inSlot left
  | .openSession .. | .closeSession _ | .tick _ | .setMask .. | .status _ | .identify _ | .claim .. | .cancel ..
  | .release .. | .setHeir .. | .extend .. | .clearFault .. | .snapshot _ | .inspect .. | .addInterlock ..
  | .dropInterlock .. | .listInterlocks _ | .dropSequence .. | .runSequence .. | .abortRun .. | .addWatch ..
  | .dropWatch .. | .notices _ | .profileRead .. | .profileErase _ | .profileCommit _ | .restart _
  | .requestIgnored _ | .collect _ | .responseConsumed _ | .presenceFall .. | .loadEnd | .loadStatusTimeout
  | .observedLevelChange .. | .stageEnd _ | .readbackDeadline _ | .termDeadline _ | .patienceDeadline ..
  | .periodDeadline _ | .holdDeadline _ | .filterDeadline .. | .wakeFilterDeadline _ | .readEnd | .selectRelease _
  | .ignoredTransaction _ | .flashStatusBusy => true

end Sys2Proof
end

