-- ==== Sys2Proof/Certificates/Slice0/Obligations.lean ====
section
/-! DEFINITION. The statements for the provers, one `def Obligations.<Name> : Prop` each, with the words they share. A
completion statement says under which conditions on the state and the operands a command answers which next state; the
state it names is `s` under record updates and shared operations, so what no update names is unchanged. -/

namespace Sys2Proof.Machine

/-! ## Words that the statements share -/

/-- The port takes frames: the reset pin is high (R168), no transaction is open on the port, and no request is in
process (R173). -/
abbrev State.Listens (s : State) (n : Port) : Prop :=
  s.resetLow = false ∧ (s.port n).decoder = .idle ∧ (s.port n).request = none

/-- A request of header `h` passes steps 1 to 6 of R180: the part state serves it, its session is OPEN with its tag, and
the port has the right it needs. -/
abbrev State.Hears (s : State) (h : Header) (service : Service) (right : Right) : Prop :=
  s.Listens h.port ∧ service.refusal s.partState = none ∧ s.isOpen h.port = true ∧ h.tag = s.tag h.port ∧
    (s.session h.port).has right = true

/-- The state in which a frame of `length` payload bytes is decided: it has been taken (R172). -/
def State.taken (s : State) (h : Header) (length : Nat) : State := s.takeFrame h.port (7 + length) (some h.seq)

/-- The same, after the keepalive of R93. -/
def State.heard (s : State) (h : Header) (length : Nat) : State := (s.taken h length).keepalive h.port

/-- The decided state `t` of a request taken in `s`, with its response placed: not ignored, and "discarded" where a
response was READY (R172, R174). -/
def State.answered (t s : State) (h : Header) (r : Reply) : State :=
  t.place h.port h.seq r (s.port h.port).response.isSome false

/-! ### The requests by what the common checks ask of them (R91, R92, R155, R179, R182) -/

/-- What R180 asks of a request: its payload length, the part states that serve it, its session rule, its right, and
whether its arguments are in range. -/
structure Checks where
  header  : Header
  length  : Nat
  service : Service
  rule    : SessionRule
  right   : Right
  inRange : Bool

/-- The requests. -/
def requestChecks : Instr → Option Checks
  | .openSession h p m k _ => some ⟨h, 4, .exceptStarting, .exempt, .none, (openArgs p m k).isSome⟩
  | .closeSession h => some ⟨h, 0, .exceptStarting, .required, .none, true⟩
  | .tick h => some ⟨h, 0, .exceptStarting, .required, .none, true⟩
  | .setMask h k => some ⟨h, 1, .readyOnly, .required, .none, (maskArg k).isSome⟩
  | .status h => some ⟨h, 0, .always, .exemptKeepalive, .none, true⟩
  | .identify h => some ⟨h, 0, .always, .exemptKeepalive, .none, true⟩
  | .claim h t p e d u => some ⟨h, 11, .readyOnly, .required, claimRight u, (claimArgs t p e d u).isSome⟩
  | .cancel h t => some ⟨h, 1, .readyOnly, .required, .none, (numberBelow 4 t).isSome⟩
  | .release h t => some ⟨h, 2, .readyOnly, .required, .none, (targetArg t).isSome⟩
  | .setDrives h es => some ⟨h, 3 * es.length, .readyOnly, .required, .none, (setArgs es).isSome⟩
  | .setHeir h l a => some ⟨h, 2, .readyOnly, .required, .none, (setHeirArgs h.port l a).isSome⟩
  | .extend h t e => some ⟨h, 6, .readyOnly, .required, .none, (extendArgs t e).isSome⟩
  | .clearFault h l => some ⟨h, 1, .readyOnly, .required, .none, (lineArg l).isSome⟩
  | .snapshot h => some ⟨h, 0, .readyOnly, .required, .none, true⟩
  | .inspect h l => some ⟨h, 1, .readyOnly, .required, .none, (lineArg l).isSome⟩
  | .addInterlock h x a y b => some ⟨h, 4, .readyOnly, .required, .configure, (ruleArgs x a y b).isSome⟩
  | .dropInterlock h k => some ⟨h, 1, .readyOnly, .required, .configure, (numberBelow 32 k).isSome⟩
  | .listInterlocks h => some ⟨h, 0, .readyOnly, .required, .none, true⟩
  | .storeSequence h q ss => some ⟨h, 1 + 5 * ss.length, .readyOnly, .required, .configure, (storeArgs q ss).isSome⟩
  | .dropSequence h q => some ⟨h, 1, .readyOnly, .required, .configure, (numberBelow 8 q).isSome⟩
  | .runSequence h q => some ⟨h, 1, .readyOnly, .required, .none, (numberBelow 8 q).isSome⟩
  | .abortRun h k => some ⟨h, 1, .readyOnly, .required, .none, (numberBelow 2 k).isSome⟩
  | .addWatch h l e f u => some ⟨h, 5, .readyOnly, .required, .none, (watchArgs l e f u).isSome⟩
  | .dropWatch h i => some ⟨h, 1, .readyOnly, .required, .none, (numberBelow 16 i).isSome⟩
  | .notices h => some ⟨h, 0, .readyOnly, .required, .none, true⟩
  | .ack h ids => some ⟨h, 2 * ids.length, .readyOnly, .required, .none, (ackArgs ids).isSome⟩
  | .profileRead h f o n => some ⟨h, 4, .exceptStarting, .required, .configure, (readArgs f o n).isSome⟩
  | .profileErase h => some ⟨h, 0, .exceptStarting, .required, .configure, true⟩
  | .profileWrite h o d => some ⟨h, 2 + d.length, .exceptStarting, .required, .configure, (writeArgs o d).isSome⟩
  | .profileCommit h => some ⟨h, 0, .exceptStarting, .required, .configure, true⟩
  | .restart h => some ⟨h, 0, .exceptStarting, .required, .configure, true⟩
  | .badFrame .. | .badRequest .. | .requestIgnored _ | .collect _ | .responseConsumed _ | .presenceFall ..
  | .resetLow _ | .resetRelease .. | .loadEnd | .loadStatusTimeout | .observedLevelChange .. | .stageEnd _
  | .readbackDeadline _ | .termDeadline _ | .patienceDeadline .. | .periodDeadline _ | .holdDeadline _
  | .filterDeadline .. | .wakeFilterDeadline _ | .eraseEnd _ | .eraseTimeout _ | .writeEnd _ | .programTimeout _
  | .commitEnd _ | .readEnd | .selectRelease _ | .ignoredTransaction _ | .flashStatusBusy => none

/-- OPEN's command carries the level of its presence input (log 2); the others sense nothing. -/
def State.sensedBy (s : State) : Instr → State
  | .openSession h _ _ _ level => s.sense h.port level
  | _ => s

/-- R92, R93: a request that gets past the session and tag checks of its rule is a keepalive where its session is OPEN
and its tag matches, and where it is no OPEN. -/
def Checks.keeps (c : Checks) (s : State) : Bool :=
  match c.rule with
  | .required => true
  | .exempt => false
  | .exemptKeepalive => s.isOpen c.header.port && decide (c.header.tag = s.tag c.header.port)

/-- R180, steps 3 to 7: the first check that fails, and whether the request was a keepalive by then. -/
def Checks.refusal (c : Checks) (s : State) : Option (ReqOutcome × Bool) :=
  match c.service.refusal s.partState with
  | some o => some (o, false)
  | none =>
    if c.rule = .required ∧ s.isOpen c.header.port = false then some (.noSession, false)
    else if c.rule = .required ∧ c.header.tag ≠ s.tag c.header.port then some (.staleSession, false)
    else if (s.session c.header.port).has c.right = false then some (.noRight, c.keeps s)
    else if c.inRange = false then some (.badArgument, c.keeps s)
    else none

/-- The table of 9.9: whether a request code allows a payload of `length` bytes; none where the code is unknown. -/
def payloadAllowed (code length : Nat) : Option Bool :=
  match code with
  | 0x01 | 0x20 | 0x38 => some (length == 4)
  | 0x02 | 0x03 | 0x05 | 0x06 | 0x17 | 0x22 | 0x32 | 0x39 | 0x3B | 0x3C => some (length == 0)
  | 0x04 | 0x11 | 0x16 | 0x18 | 0x21 | 0x29 | 0x2A | 0x2B | 0x31 => some (length == 1)
  | 0x10 => some (length == 11)
  | 0x12 | 0x14 => some (length == 2)
  | 0x13 => some (length % 3 == 0)
  | 0x15 => some (length == 6)
  | 0x28 => some (decide (1 ≤ length) && (length - 1) % 5 == 0)
  | 0x30 => some (length == 5)
  | 0x33 => some (length % 2 == 0)
  | 0x3A => some (decide (2 ≤ length))
  | _ => none

/-! ### Lines -/

/-- R45: a line record at reset, its pad sensed at `level`. -/
def resetLine (level : Level) : Line :=
  { state := .free, holder := .none, drive := .float, keeper := none, move := none, heir := none, term := none,
    termDue := false, fault := .none, priorDrive := none, binding := none, freeReason := some .start, observed := level,
    readback := .off, statics := none }

/-- R90, R91: a session record at reset. -/
def resetSession : Session :=
  { epoch := 0, lastEnd := .none, configure := false, priority := false, presenceUsed := false, live := none }

/-- R168: a port record at reset. -/
def resetPort : PortRecord :=
  { decoder := .idle, received := 0, request := none, response := none, lastSeq := 0, shifting := none }

/-- R151: the Loader's record at reset, with the load that a release of the reset pin begins. -/
def resetLoader (load : Option LoadRun) : Loader :=
  { partState := .starting, loaded := none, generation := 0, spare := .a, spareState := .stale, resultA := .notRead,
    resultB := .notRead, flashOp := none, lastFailure := none, load := load }

/-- R152, step 2: the result of a slot at a load: valid with its generation, or the reason and the generation read. -/
def State.resultOf (s : State) (slot : FlashSlot) : SlotResult :=
  match checkImage .load (s.slotByte slot) with
  | .ok _ => .valid (s.slotGeneration slot)
  | .error reason => .invalid reason (s.slotGeneration slot)

/-- R1: the pad commanded to drive `d` at line time `now`: a KEEP drive entered from any other drive is a strong drive of
its level at that moment, from which the keeper holds; a command to the drive that the pad has changes nothing. -/
def Line.commanded (ln : Line) (d : Drive) (now : LineTime) : Line :=
  { ln with
    drive := d
    keeper :=
      if ln.drive = d then ln.keeper
      else match d with
        | .keep level => some { level := level, drivenAt := now }
        | .float => none
        | .sink _ => none
        | .drive _ => none }

/-- R6, R51: a line under a move of `kind` to `t`, just begun at line time `now`. -/
def Line.moving (ln : Line) (kind : MoveKind) (t : Drive) (now : LineTime) : Line :=
  { ln.commanded (ln.drive.stagesTo t).first now with
    readback := .off
    move := some { kind := kind, stages := ln.drive.stagesTo t, index := .first,
                   deadline := now + BitVec.ofNat 32 ln.static.settle, origin := some ln.drive } }

/-- R32, R36, R40: a line that has left its holder for the reason given, with its release move to `t` begun. -/
def Line.released (ln : Line) (reason : FreeReason) (t : Drive) (now : LineTime) : Line :=
  { ln.moving .release t now with
    state := .releasing, holder := .none, freeReason := some reason, term := none, termDue := false,
    fault := .none, priorDrive := none, heir := ln.static.defaultHeir }

/-- R30, R116: a line driven to `d`: MOVING under an ORDINARY move, or as it stood where it has that drive. -/
def Line.driven (ln : Line) (d : Drive) (now : LineTime) : Line :=
  if ln.drive = d then ln else { ln.moving .ordinary d now with state := .moving }

/-- R13: a line that enters the checked condition where it is HELD in a checked drive. -/
def Line.checkedIn (ln : Line) (now : LineTime) : Line :=
  if ln.state = .held ∧ ln.drive.checked then
    { ln with readback := if ln.drive.asserted = some ln.observed then .armed
                          else .counting (now + BitVec.ofNat 32 ln.static.settle) }
  else ln

/-- R27: a line granted to agent `n`. -/
def Line.granted (ln : Line) (n : Port) (term : Option Nat) (now : LineTime) : Line :=
  ({ ln with state := .held, holder := .agent n, freeReason := none, heir := heirUnless n ln.static.defaultHeir,
             term := term.map fun ms => now + BitVec.ofNat 32 (ms * 1000), termDue := false } : Line).checkedIn now

/-- Nothing but lines and the statuses of interlock slots differs. -/
abbrev State.OnlyLines (s t : State) : Prop := t = { s with lines := t.lines, interlocks := t.interlocks }

/-- R65: the table of `t` is that of `s`, but that a RESERVED rule which the assertion set of `t` does not match is
OCCUPIED. -/
def State.SettledTo (s t : State) : Prop :=
  ∀ k, t.ruleAt k = match s.ruleAt k with
    | .rule r .reserved origin => if r.matchedBy t.assertion then .rule r .reserved origin else .rule r .occupied origin
    | .rule r .occupied origin => .rule r .occupied origin
    | .empty => .empty

/-- R53, R54, all or nothing: each change is put to admission in the order of the list; the first refusal gives its slot
and line, and an admitted change is entered before the next is tested. An initial drive is proposed for the lines of its
target, each once, in ascending order. -/
def DriveAllAdmitsInOrder : Prop :=
  (∀ (s : State) (l : LineId) (d : Drive) (rest : List (LineId × Drive)),
    s.driveAll [] = .ok s ∧
    (∀ slot, s.admission l d = some slot → s.driveAll ((l, d) :: rest) = .error (slot, l)) ∧
    (s.admission l d = none → ∃ u, s.OnlyLines u ∧ u.line l = (s.line l).driven d s.lineTime ∧
      (∀ m, m ≠ l → u.line m = s.line m) ∧ ((s.line l).move = none → u.interlocks = s.interlocks) ∧
      s.driveAll ((l, d) :: rest) = u.driveAll rest)) ∧
  (∀ (ls : List LineId) (d : Drive), ((proposals ls d).map (·.1)).Pairwise (· < ·) ∧
    ∀ p, p ∈ proposals ls d ↔ p.1 ∈ ls ∧ p.2 = d)

/-! ### Watches (R131, R132, R145) -/

/-- R132: a change of the filtered level to `new` matches the edge. -/
abbrev Edge.Hits (e : Edge) (new : Level) : Prop :=
  e = .either ∨ (e = .rise ∧ new = true) ∨ (e = .fall ∧ new = false)

/-- R131: a filter of `time` µs at an observed-level change to `new` at line time `now`: the level has returned, or the
filter is 0 and it is taken at once, or it becomes the candidate. -/
def Filter.changed (f : Filter) (time : Nat) (new : Level) (now : LineTime) : Filter :=
  if new = f.filtered then { filtered := f.filtered, candidate := none }
  else if time = 0 then { filtered := new, candidate := none }
  else { filtered := f.filtered,
         candidate := some { level := new, since := now, deadline := now + BitVec.ofNat 32 time } }

/-- R131, R132: a watch record at an observed-level change of its line: its filter, and, where the filter is 0 and the
edge matches, its pending count, 255 at most, with the stamp of the first edge. -/
def Watch.changed (w : Watch) (new : Level) (now : LineTime) : Watch :=
  { w with
    view := w.view.changed w.filter new now
    pending :=
      if new ≠ w.view.filtered ∧ w.filter = 0 ∧ w.edge.Hits new then
        match w.pending with
        | none => some { count := 1, stamp := now }
        | some e => some { count := if e.count = 255 then 255 else e.count + 1, stamp := e.stamp }
      else w.pending }

/-! ### Scans (R27, R80, R81) -/

/-- R27, R81: from `s` to `t` the entry `e` has been granted at a scan: its lines are granted; an initial drive starts
every move, or, where admission refuses one line's drive, none, with the slot and the line in the ticket's marker; the
entry leaves the list, its ticket is GRANTED at this line time, and its agent's attention output follows. -/
def EntryGranted (s t : State) (e : Entry) : Prop :=
  let granted : State := { s with lines := Vector.ofFn fun l =>
    if l ∈ e.target.lines then (s.line l).granted e.agent e.term s.lineTime else s.line l }
  ∃ (u : State) (applied : DriveApplied),
    (match e.drive with
      | none => u = granted ∧ applied = .notAsked
      | some d =>
        (∃ slot l, granted.driveAll (proposals e.target.lines d) = .error (slot, l) ∧ u = granted ∧
          applied = .no slot l) ∨
        (granted.driveAll (proposals e.target.lines d) = .ok u ∧ applied = .yes ∧ granted.OnlyLines u ∧
          ∀ l, u.line l = if l ∈ e.target.lines then (granted.line l).driven d s.lineTime else s.line l)) ∧
    let live := (s.live e.agent).map fun v =>
      { v with tickets := v.tickets.set e.ticket (.granted e.target s.lineTime applied) }
    t = { u with
      sessions := s.sessions.set e.agent { s.session e.agent with live := live }
      attention := s.attention.set e.agent ((live.map Live.alerts).getD false)
      pendingList := s.pendingList.filter fun d => decide (¬ (d.agent = e.agent ∧ d.ticket = e.ticket)) }

/-- R80: the walk over the entries from `s` to `t`: each is granted where all its lines are FREE at its turn, and passed
over where they are not. -/
def Scanned : List Entry → State → State → Prop
  | [], s, t => t = s
  | e :: rest, s, t =>
    if ∀ l ∈ e.target.lines, (s.line l).state = .free then ∃ u, EntryGranted s u e ∧ Scanned rest u t
    else Scanned rest s t

/-! ### The restart conflict rule (R64) -/

/-- R64, step 3: one pass over the rules in order, from the lines already chosen to `out`: a rule that the settled levels
match chooses its unpinned line, the higher-numbered of two, which then asserts nothing. -/
def ConflictPass (pinned : LineId → Bool) (levels : LineId → Levels) : List Rule → List LineId → List LineId → Prop
  | [], chosen, out => out = chosen
  | r :: rest, chosen, out =>
    if r.matchedBy (fun l => if l ∈ chosen then Levels.empty else levels l) then
      (pinned r.x = true → pinned r.y = true → ConflictPass pinned levels rest chosen out) ∧
      (pinned r.x = true → pinned r.y = false → ConflictPass pinned levels rest (chosen ++ [r.y]) out) ∧
      (pinned r.x = false → pinned r.y = true → ConflictPass pinned levels rest (chosen ++ [r.x]) out) ∧
      (pinned r.x = false → pinned r.y = false →
        ConflictPass pinned levels rest (chosen ++ [if r.x < r.y then r.y else r.x]) out)
    else ConflictPass pinned levels rest chosen out

/-! ### The end of a session (R38 to R40, R87, R105, R106, R141, R144) -/

/-- R38, R53: the records as they stand when the disposition from `s` to `t` comes to line `l`: the lower-numbered lines
are disposed of, the move of `l` is abandoned, the others are as they were. -/
def State.disposing (s t : State) (l : LineId) : State :=
  { s with lines := Vector.ofFn fun m =>
      if m < l then t.line m else if m = l then { s.line l with move := none } else s.line m }

/-- R65: the interlock table once agent `lost`'s lines up to `l` are disposed of: a RESERVED rule is OCCUPIED where the
abandonment of some move among them left it unmatched. -/
def State.tableAt (s t : State) (lost : Port) (l : LineId) : Vector InterlockSlot 32 :=
  Vector.ofFn fun k => match s.ruleAt k with
    | .rule r .reserved origin =>
      if ∃ m : LineId, m ≤ l ∧ (s.line m).holder = .agent lost ∧ (s.line m).move.isSome = true ∧
          r.matchedBy (s.disposing t m).assertion = false
      then .rule r .occupied origin else .rule r .reserved origin
    | .rule r .occupied origin => .rule r .occupied origin
    | .empty => .empty

/-- R40, R56: the target of line `l` parked in the disposition from `s` to `t`: its fallback, or FLOAT where admission
refuses it with the lower-numbered lines already counted. -/
def State.parkTarget (s t : State) (lost : Port) (l : LineId) : Drive :=
  let u : State := { s.disposing t l with interlocks := s.tableAt t lost l }
  if (u.admission l (s.line l).static.fallback).isNone then (s.line l).static.fallback else .float

/-- R39: port `heir` is named as heir of a line that agent `lost` holds, and is eligible. -/
abbrev State.Inherits (s : State) (lost : Port) (l : LineId) (heir : Port) : Prop :=
  (s.line l).holder = .agent lost ∧ (s.line l).heir = some heir ∧ heir ≠ lost ∧ s.isOpen heir = true

/-- R38 to R40: what becomes in `t` of line `l`, which agent `lost` held in `s`: its eligible heir inherits it at the drive
of the stage reached, and a line that was MOVING enters the checked condition; without one it is parked. -/
def LineDisposed (s t : State) (lost : Port) (l : LineId) : Prop :=
  let p := s.line l
  (∀ heir, s.Inherits lost l heir →
    let q : Line := { p with state := .held, holder := .agent heir, heir := none, term := none, termDue := false,
                             binding := none, move := none }
    t.line l = if p.state = .moving then q.checkedIn s.lineTime else q) ∧
  ((∀ heir, ¬ s.Inherits lost l heir) →
    t.line l = { p.released .lost (s.parkTarget t lost l) s.lineTime with binding := none })

/-- R39, R106, R136: an OPEN session of another port `m` once the session of `lost` has ended: AGENT_LOST replaces an
entry for that port, and each line it inherits is posted INHERITED, an entry already pending keeping its first. -/
def Live.bereaved (v : Live) (s : State) (lost m : Port) (cause : EndCause) : Live :=
  { v with
    losses := v.losses.set lost (some (cause, s.lineTime))
    lineNotices := Vector.ofFn fun l =>
      if s.Inherits lost l m then
        { v.lineNotices.get l with
          inherited := match (v.lineNotices.get l).inherited with
            | none => some (lost, s.lineTime)
            | some first => some first }
      else v.lineNotices.get l }

/-- R105: from `s` to `t` the session of port `n` has ended with `cause`. -/
def SessionEnded (s t : State) (n : Port) (cause : EndCause) : Prop :=
  t.session n = { s.session n with lastEnd := cause, live := none } ∧ t.attention.get n = false ∧
  (∀ m, m ≠ n → t.session m = { s.session m with live := (s.live m).map fun v => v.bereaved s n m cause } ∧
    t.attention.get m = match s.live m with
      | none => s.attention.get m
      | some v => (v.bereaved s n m cause).alerts) ∧
  (∀ l, (s.line l).holder ≠ .agent n → t.line l = s.line l) ∧
  (∀ l, (s.line l).holder = .agent n → LineDisposed s t n l) ∧
  t.interlocks = s.tableAt t n 47 ∧
  t.pendingList = s.pendingList.filter (fun e => decide (e.agent ≠ n)) ∧
  (∀ k, s.run k = none → t.run k = none) ∧ (∀ k, ∀ r ∈ s.run k, r.agent ≠ n → t.run k = some r) ∧
  (∀ k, ∀ r ∈ s.run k, r.agent = n → s.lineSet r.sequence ≠ [] → t.run k = none) ∧
  t.wakeWatches = s.wakeWatches.map (fun w =>
    if w.target = n then { w with view := some { filtered := (s.line w.line).observed, candidate := none } } else w) ∧
  t = { s with lines := t.lines, interlocks := t.interlocks, sessions := t.sessions, attention := t.attention,
               pendingList := t.pendingList, slots := t.slots, wakeWatches := t.wakeWatches }

/-! ### Runs and flash work that go on or end (R95, R116, R118 to R122, R160, R173) -/

/-- From `s` to `t` the run `r` of slot `k` has ended: the slot is IDLE, its lines are unbound and otherwise as they
were, `out` is posted to its agent's session, and that agent's attention output follows; nothing else differs (R118, R119,
R120, R121, R122, R126). -/
def RunEnded (s t : State) (k : SlotId) (r : Run) (out : SeqOutcome) : Prop :=
  let live := (s.live r.agent).map fun v => { v with outcomes := v.outcomes.set r.sequence (some out) }
  t = { s with
    slots := s.slots.set k none
    lines := Vector.ofFn fun l =>
      if (s.line l).binding = some k then { s.line l with binding := none } else s.line l
    sessions := s.sessions.set r.agent { s.session r.agent with live := live }
    attention := s.attention.set r.agent ((live.map Live.alerts).getD false) }

/-- R116, R118, R119: from `s`, where slot `k` runs `r`, the steps listed begin, the first of them with the number that `r`
gives: refused by admission, the run halts; its line moves; or it holds. A hold of 0 ms ends at once, and the step after
it begins at the same event; after the last the run has finished. `t` is the state after. -/
def StepsBegun (k : SlotId) (t : State) : List SeqStep → Run → State → Prop
  | [], r, s => RunEnded s t k r (.finished k s.lineTime)
  | st :: rest, r, s =>
    (∀ slot, s.admission st.line st.drive = some slot →
      RunEnded s t k r (.halted k r.step (.interlock slot st.line) s.lineTime)) ∧
    (s.admission st.line st.drive = none →
      ((s.line st.line).drive ≠ st.drive →
        t = { s with lines := t.lines, interlocks := t.interlocks,
                     slots := s.slots.set k (some { r with phase := .stepping }) } ∧
        t.line st.line = (s.line st.line).driven st.drive s.lineTime ∧ (∀ l, l ≠ st.line → t.line l = s.line l) ∧
        ((s.line st.line).move = none → t.interlocks = s.interlocks)) ∧
      ((s.line st.line).drive = st.drive → 0 < st.hold →
        t = s.setRun k (some { r with phase := .holding (s.lineTime + BitVec.ofNat 32 (st.hold * 1000)) })) ∧
      ((s.line st.line).drive = st.drive → st.hold = 0 →
        StepsBegun k t rest { r with step := r.step + 1 } (s.setRun k (some { r with step := r.step + 1 }))))

/-- R161 to R164: the offsets of the spare that a flash request can change. -/
def FlashWork.Reaches (w : FlashWork) (o : Nat) : Prop :=
  w = .erase ∨ (∃ offset data, w = .write offset data ∧ offset ≤ o ∧ o < offset + data.length) ∨ (w = .commit ∧ o = 5)

/-- The flash work of `op` has ended from `s` with reply `r`: the operation is gone; where the port's request is still in
process, its response is placed with the request's sequence number and markers, the request slot is EMPTY and an OPEN
session gets a keepalive; where a presence fall has cleared it, nothing is placed (R95, R160, R165, R173, R174). -/
def FlashEnded (s t : State) (op : FlashOp) (r : Reply) : Prop :=
  let u := { s with loader := { s.loader with flashOp := none } }
  (∀ q, (s.port op.port).request = some q →
    t = (u.setPort op.port { s.port op.port with
      request := none
      response := some { seq := q.seq, reply := r, discarded := q.discarded, ignored := q.ignored } }).keepalive op.port) ∧
  ((s.port op.port).request = none → t = u)

end Sys2Proof.Machine

open Sys2Proof Sys2Proof.Machine

/-! ## The queue, the clock and reset -/

/-- A step with a command at the front of the queue is that command's meaning on the rest. -/
def Obligations.StepTakesFrontCommand : Prop :=
  ∀ (c : Instr) (rest : List Instr) (s : State), step { s with pending := c :: rest } = exec c { s with pending := rest }

/-- MODEL'S CHOICE (logs 4 and 5): a step on an empty queue does nothing while the reset pin is low; else it takes a
deadline that is due, or, where none is, line time goes up by one (R128, R129), and the keeper of a pad in KEEP holds the
level that the pad is at (R1, log 24). -/
def Obligations.EmptyQueueStepIsTheClock : Prop :=
  ∀ s : State, s.pending = [] →
    (s.resetLow = true → step s = .next s) ∧
    (s.resetLow = false →
      (s.due = [] → ∃ t, step s = .next t ∧ t = { s with lineTime := s.lineTime + 1, lines := t.lines } ∧
        ∀ l, t.line l = { s.line l with
          keeper := (s.line l).keeper.map fun k => { k with level := (s.line l).observed } }) ∧
      (∀ c, s.due = [c] → step s = exec c s) ∧
      (∀ c d cs, s.due = c :: d :: cs → ∃ e ∈ s.due, step s = exec e { s with choices := s.choices + 1 }))

/-- MODEL'S READING (log 6): every command has an effect in the spec from every state, so the part stops nowhere: every
step answers a next state. -/
def Obligations.EveryStepAnswersNext : Prop := ∀ s : State, StepSafe s

/-- State.reset holds the values that the spec states for reset, and meets every law that the steps keep. -/
def Obligations.ResetHoldsTheStatedValuesAndLaws : Prop :=
  (let s := State.reset
  s.lineTime = 0 ∧ s.pendingList = [] ∧ s.wakeWatches = [] ∧
  (∀ l, ∃ level, s.line l = resetLine level) ∧ (∀ k, s.ruleAt k = .empty) ∧ (∀ g, s.groups.get g = none) ∧
  (∀ n, s.session n = resetSession) ∧
  (∀ q, s.sequence q = none) ∧ (∀ k, s.run k = none) ∧ (∀ n, s.wakeOut.get n = false) ∧
  (∀ n, s.attention.get n = false) ∧
  (∀ n, s.port n = resetPort) ∧ s.loader = resetLoader (some { began := 0, restart := false })) ∧
  (State.reset.Coherent ∧ State.reset.HoldersOpen ∧ State.reset.StartFloating ∧ State.reset.RulesHold ∧
    State.reset.AttentionSound ∧ State.reset.WakesSound ∧ State.reset.FlashSound ∧ State.reset.PortsSound)

/-! ## Taking requests (chapter 9) -/

/-- R180, steps 3 to 7, for each of the 31 requests: the first check that fails gives the outcome; the frame is taken all
the same, and nothing else changes but for the keepalive of a request past step 5. OPEN's command carries the level sensed
of the presence input and writes it too, the model's choice (log 2). -/
def Obligations.FirstFailingCheckGivesTheOutcome : Prop :=
  ∀ (i : Instr) (c : Checks) (s : State) (o : ReqOutcome) (keep : Bool), requestChecks i = some c →
    s.Listens c.header.port → c.refusal s = some (o, keep) →
    exec i s = .next ((if keep then (s.sensedBy i).heard c.header c.length else (s.sensedBy i).taken c.header c.length).answered
      s c.header (Reply.bare o))

/-- R173: a request that arrives while a request is in process on the port is ignored: it sets the ignored marker and
nothing else of it is taken. MODEL'S READING: that a whole request command is ignored so (log 8), that one inside a
transaction which is still open, or while the reset pin is low, reaches nothing (log 7, R168, R171), and that OPEN's
command writes the level sensed of the presence input all the same (log 2). -/
def Obligations.RequestIsIgnoredWhileOneIsInProcess : Prop :=
  ∀ (i : Instr) (c : Checks) (s : State), requestChecks i = some c →
    (s.resetLow = false ∧ (s.port c.header.port).decoder = .idle ∧ (s.port c.header.port).request.isSome = true →
      exec i s = .next ((s.sensedBy i).ignoreFrame c.header.port)) ∧
    (s.resetLow = true ∨ (s.port c.header.port).decoder ≠ .idle → exec i s = .next (s.sensedBy i))

/-- R172, R173, R174 and R93, in the fields they write: a frame taken, a frame ignored, a response placed, a keepalive.
Each writes one record, and every other record of State stays. -/
def Obligations.TakingPlacingAndKeepaliveWriteOneRecord : Prop :=
  ∀ (s t : State) (h : Header) (length : Nat) (r : Reply),
    s.taken h length = s.setPort h.port
      { s.port h.port with decoder := .request, received := 7 + length, response := none, lastSeq := h.seq } ∧
    s.ignoreFrame h.port = s.setPort h.port
      { s.port h.port with decoder := .skip, received := 1,
                           request := (s.port h.port).request.map fun q => { q with ignored := true } } ∧
    t.answered s h r = t.setPort h.port
      { t.port h.port with response := some { seq := h.seq, reply := r, ignored := false,
                                              discarded := (s.port h.port).response.isSome } } ∧
    s.keepalive h.port = s.setSession h.port
      { s.session h.port with live := (s.live h.port).map fun v =>
          { v with misses := 0, deadline := s.lineTime + BitVec.ofNat 32 (v.period * 1000) } } ∧
    (∀ (n m : Port) (p : PortRecord), (s.setPort n p).port m = if m = n then p else s.port m) ∧
    (∀ (n m : Port) (x : Session), (s.setSession n x).session m = if m = n then x else s.session m) ∧
    (∀ (n : Port) (p : PortRecord) (x : Session),
      { s.setPort n p with ports := s.ports } = s ∧ { s.setSession n x with sessions := s.sessions } = s)

/-- R169, R171, R172, R173, R174, R176, R180: BAD_FRAME is answered with its cause and the sequence byte received, or
0, and does not write the last sequence taken; BAD_REQUEST is answered with its cause and does; neither changes
anything but its port. A request kind byte while a request is in process sets the ignored marker; any other first byte
skips the transaction; the release of select ends a transaction and consumes nothing. A LENGTH or SHORT failure leaves
the decoder IDLE, the model's choice (log 7). -/
def Obligations.BrokenAndIgnoredTransactions : Prop :=
  ((∀ (n : Port) (seq : Option Byte) (cause : FrameFault) (received : Nat) (s : State), s.Listens n →
    exec (.badFrame n seq cause received) s = .next (s.setPort n
      { s.port n with
        decoder := if cause = .crc then .request else .idle
        received := if cause = .crc then received else 0
        response := some { seq := seq.getD 0, reply := Reply.of .badFrame (.frameFault cause), ignored := false,
                           discarded := (s.port n).response.isSome } })) ∧
  (∀ (h : Header) (cause : RequestFault) (length : Byte) (s : State), s.Listens h.port →
    exec (.badRequest h cause length) s =
      .next ((s.taken h length.toNat).answered s h (Reply.of .badRequest (.requestFault cause))))) ∧
  (∀ (n : Port) (s : State), s.resetLow = false →
    (∀ q, (s.port n).decoder = .idle → (s.port n).request = some q →
      exec (.requestIgnored n) s = .next (s.setPort n
        { s.port n with decoder := .skip, received := 1, request := some { q with ignored := true } })) ∧
    ((s.port n).decoder = .idle →
      exec (.ignoredTransaction n) s = .next (s.setPort n { s.port n with decoder := .skip, received := 1 })) ∧
    exec (.selectRelease n) s =
      .next (s.setPort n { s.port n with decoder := .idle, received := 0, shifting := none }))

/-- R175, R176: a collect is answered from the state of the port, in every part state, and changes no record of any block;
the overlap flags of NOT_READY and NONE are 0 and their payloads empty. The last CRC byte of a collect of kind RESPONSE
empties the response slot; a collect of another kind consumes nothing. -/
def Obligations.CollectFixesAndConsumesTheFrame : Prop :=
  (∀ (n : Port) (s : State), s.resetLow = false → (s.port n).decoder = .idle →
    let fixes := fun (f : CollectFrame) =>
      exec (.collect n) s = .next (s.setPort n { s.port n with decoder := .collect, received := 1, shifting := some f })
    (∀ r, (s.port n).response = some r → fixes (.response r (s.attention.get n))) ∧
    (∀ q, (s.port n).response = none → (s.port n).request = some q →
      fixes (.notReady q.seq (s.attention.get n)) ∧
      (CollectFrame.notReady q.seq (s.attention.get n)).bytes =
        withCrc [0x02, q.seq, 0x00, if s.attention.get n then 4 else 0, 0x00]) ∧
    ((s.port n).response = none → (s.port n).request = none →
      fixes (.none (s.port n).lastSeq (s.attention.get n)) ∧
      (CollectFrame.none (s.port n).lastSeq (s.attention.get n)).bytes =
        withCrc [0x03, (s.port n).lastSeq, 0x00, if s.attention.get n then 4 else 0, 0x00])) ∧
  (∀ (n : Port) (s : State),
    (∀ r attention, (s.port n).decoder = .collect → (s.port n).shifting = some (.response r attention) →
      exec (.responseConsumed n) s = .next (s.setPort n
        { s.port n with response := none, shifting := none, received := 8 + r.reply.payload.bytes.length })) ∧
    ((∀ r attention, (s.port n).shifting ≠ some (.response r attention)) ∨ (s.port n).decoder ≠ .collect →
      exec (.responseConsumed n) s = .next s))

/-- R169, R170, R179, R182: the frame of every well-formed request, received on a port with no request in process, is
that request again, with every operand at every value that the wire carries. -/
def Obligations.RequestFrameReadsBack : Prop :=
  ∀ (i : Instr) (p : Header × Byte × List Byte) (sensed : Level), i.wellFormed = true → requestParts i = some p →
    (∀ h period limit mask level, i = .openSession h period limit mask level → level = sensed) →
    judgeTransaction p.1.port false sensed (requestFrame p) = some i

/-- R169, R171, R173, R180: a transaction with another first byte is ignored, 5Ch collects, a request kind byte while a
request is in process is ignored whatever follows it, and a frame with a wrong CRC, a length above 240 or a missing end
is a broken frame. A whole frame with an unknown code, or a payload length that its code does not allow, is BAD_REQUEST
with its cause; any other is the request of those parts. -/
def Obligations.TransactionsAreClassified : Prop :=
  ∀ (n : Port) (sensed inProcess : Bool) (rest : List Byte),
    judgeTransaction n inProcess sensed [] = none ∧
    judgeTransaction n inProcess sensed (0x5C :: rest) = some (.collect n) ∧
    (∀ b : Byte, b ≠ 0xA5 → b ≠ 0x5C → judgeTransaction n inProcess sensed (b :: rest) = some (.ignoredTransaction n)) ∧
    judgeTransaction n true sensed (0xA5 :: rest) = some (.requestIgnored n) ∧
    (rest.length < 4 → judgeTransaction n false sensed (0xA5 :: rest) =
      some (.badFrame n rest[0]? .short (1 + rest.length))) ∧
    (∀ seq tag code length : Byte, 240 < length.toNat →
      ∃ k, judgeTransaction n false sensed (0xA5 :: seq :: tag :: code :: length :: rest) =
        some (.badFrame n (some seq) .length k)) ∧
    (∀ seq tag code length : Byte, length.toNat ≤ 240 → rest.length < length.toNat + 2 →
      judgeTransaction n false sensed (0xA5 :: seq :: tag :: code :: length :: rest) =
        some (.badFrame n (some seq) .short (5 + rest.length))) ∧
    (∀ (seq tag code : Byte) (payload : List Byte) (c0 c1 : Byte), payload.length ≤ 240 →
      crcBytes (crc16 ([0xA5, seq, tag, code, byteOf payload.length] ++ payload)) ≠ [c0, c1] →
      judgeTransaction n false sensed ([0xA5, seq, tag, code, byteOf payload.length] ++ payload ++ c0 :: c1 :: rest) =
        some (.badFrame n (some seq) .crc (7 + payload.length))) ∧
    (∀ (seq tag code : Byte) (payload : List Byte), payload.length ≤ 240 →
      let h : Header := { port := n, seq := seq, tag := tag }
      let judged := judgeTransaction n false sensed
        (withCrc ([0xA5, seq, tag, code, byteOf payload.length] ++ payload) ++ rest)
      (payloadAllowed code.toNat payload.length = none →
        judged = some (.badRequest h .unknownCode (byteOf payload.length))) ∧
      (payloadAllowed code.toNat payload.length = some false →
        judged = some (.badRequest h .payloadLength (byteOf payload.length))) ∧
      (payloadAllowed code.toNat payload.length = some true →
        ∃ i, judged = some i ∧ requestParts i = some (h, code, payload)))

/-! ## Sessions (chapter 5) -/

/-- R97, R98, R99: an OPEN on a CLOSED port that is served, in range and not ABSENT opens the session: the epoch goes
up by one (from 65,535 to 1), the four tickets are IDLE, the notice sets empty and no watch exists, wake output n
falls, the wake watches of the port become inactive and attention output n is low. The response gives the last end
cause as before. OPEN is refused ABSENT, with nothing changed, where the port uses presence and it is low. On an OPEN
port it first ends that session with cause REOPENED, every disposition carried out, and then opens a new one in the
same event. The command carries the level sensed of the presence input, the model's choice (log 2). -/
def Obligations.OpenOpensOrReopens : Prop :=
  (∀ (h : Header) (period : BitVec 16) (limit mask : Byte) (level : Level) (a : OpenArgs) (s : State),
    s.Listens h.port → s.partState ≠ .starting → openArgs period limit mask = some a →
    let n := h.port
    let u := (s.sense n level).taken h 4
    let epoch := if (s.session n).epoch = 65535 then 1 else (s.session n).epoch + 1
    (((s.session n).presenceUsed = true ∧ level = false) →
      exec (.openSession h period limit mask level) s = .next (u.answered s h (Reply.bare .absent))) ∧
    (((s.session n).presenceUsed = false ∨ level = true) → s.isOpen n = false →
      exec (.openSession h period limit mask level) s = .next (({ u with
        sessions := u.sessions.set n { s.session n with
          epoch := epoch,
          live := some { period := a.period, deadline := s.lineTime + BitVec.ofNat 32 (a.period * 1000),
                         limit := a.limit, misses := 0, mask := a.mask,
                         tickets := Vector.replicate 4 .idle, watches := Vector.replicate 16 none,
                         lineNotices := Vector.replicate 48 { faulted := none, inherited := none, termEnded := none },
                         outcomes := Vector.replicate 8 none, losses := Vector.replicate 3 none } }
        wakeOut := u.wakeOut.set n false
        wakeWatches := u.wakeWatches.map fun w => if w.target = n then { w with view := none } else w
        attention := u.attention.set n false } : State).answered s h
          (Reply.of .ok (.opened epoch (s.session n).lastEnd (s.session n).configure (s.session n).priority
            (s.session n).presenceUsed))))) ∧
  (∀ (h : Header) (period : BitVec 16) (limit mask : Byte) (level : Level) (a : OpenArgs) (s : State),
    s.Listens h.port → s.partState ≠ .starting → openArgs period limit mask = some a → s.isOpen h.port = true →
    ((s.session h.port).presenceUsed = false ∨ level = true) → s.Coherent →
    let n := h.port
    let u := (s.sense n level).taken h 4
    let epoch := if (s.session n).epoch = 65535 then 1 else (s.session n).epoch + 1
    ∃ t, SessionEnded u t n .reopened ∧
      exec (.openSession h period limit mask level) s = .next ((t.openRecord n a.period a.limit a.mask).answered s h
        (Reply.of .ok (.opened epoch .reopened (s.session n).configure (s.session n).priority
          (s.session n).presenceUsed))))

/-- R38 to R40, R87, R100, R105, R106, R123, R141, R144: CLOSE ends the session with cause CLOSED: every line it held is
inherited by an eligible heir or parked, its runs and waiting claims are gone, the other sessions are told, its wake
watches are active, and the response carries the epoch of the session just ended. -/
def Obligations.CloseEndsTheSession : Prop :=
  ∀ (h : Header) (s : State), s.Hears h .exceptStarting .none → s.Coherent →
    ∃ t, SessionEnded (s.heard h 0) t h.port .closed ∧
      exec (.closeSession h) s = .next (t.answered s h (Reply.of .ok (.closed (s.session h.port).epoch)))

/-- R92, R93, R101, R166, R167: TICK is a keepalive and does nothing else to any record; its response carries the line time and
the miss count as it stood before. STATUS and IDENTIFY are answered in every part state, with no session, and are a
keepalive of an OPEN session whose tag they carry. STATUS reports the Loader's record, the faulted lines with their
holders, the asking port's session after that keepalive (the model's reading, log 14) and the line time. -/
def Obligations.TickStatusAndIdentifyReport : Prop :=
  (∀ (h : Header) (s : State), s.Hears h .exceptStarting .none → ∀ v ∈ s.live h.port,
    exec (.tick h) s = .next ((s.heard h 0).answered s h (Reply.of .ok (.ticked s.lineTime v.misses)))) ∧
  (∀ (h : Header) (s : State), s.Listens h.port →
    let u := if s.isOpen h.port = true ∧ h.tag = s.tag h.port then s.heard h 0 else s.taken h 0
    exec (.status h) s = .next (u.answered s h (Reply.of .ok (.status
      { partState := s.loader.partState, loaded := s.loader.loaded, generation := s.loader.generation,
        spare := s.loader.spare, spareState := s.loader.spareState, resultA := s.loader.resultA,
        resultB := s.loader.resultB, flashOp := s.loader.flashOp, lastFailure := s.loader.lastFailure,
        faulted := (allLines.filter fun l => decide ((s.line l).fault = .readback)).map fun l => (l, (s.line l).holder),
        own := { epoch := (s.session h.port).epoch, lastEnd := (s.session h.port).lastEnd,
                 open_ := (u.live h.port).map fun v => (v.misses, v.mask) },
        at_ := s.lineTime }))) ∧
    exec (.identify h) s = .next (u.answered s h (Reply.of .ok (.identity identityFacts s.lineTime))))

/-- R102: SET_MASK changes the session's mask and re-evaluates its attention output; a value other than ALL, URGENT_ONLY
and NONE is refused BAD_ARGUMENT. -/
def Obligations.SetMaskChangesTheMask : Prop :=
  ∀ (h : Header) (mask : Byte) (s : State), s.Hears h .readyOnly .none →
    (∀ m, ((mask = 0 ∧ m = .all) ∨ (mask = 1 ∧ m = .urgentOnly) ∨ (mask = 2 ∧ m = AttentionMask.none)) →
      ∀ v ∈ (s.heard h 1).live h.port,
        exec (.setMask h mask) s = .next (({ s.heard h 1 with
          sessions := (s.heard h 1).sessions.set h.port
            { (s.heard h 1).session h.port with live := some { v with mask := m } }
          attention := s.attention.set h.port ({ v with mask := m } : Live).alerts } : State).answered s h
            (Reply.bare .ok))) ∧
    (2 < mask.toNat → exec (.setMask h mask) s = .next ((s.heard h 1).answered s h (Reply.bare .badArgument)))

/-- R94, R95: at a period deadline no miss is counted while a request is in process; otherwise the miss count goes up,
and at the miss limit the session ends with cause KEEPALIVE. -/
def Obligations.PeriodDeadlineCountsAMiss : Prop :=
  ∀ (n : Port) (s : State) (v : Live), s.live n = some v → v.deadline = s.lineTime →
    let next := fun (misses : Nat) => s.setSession n { s.session n with
      live := some { v with misses := misses, deadline := v.deadline + BitVec.ofNat 32 (v.period * 1000) } }
    ((s.port n).request.isSome = true → exec (.periodDeadline n) s = .next (next v.misses)) ∧
    ((s.port n).request = none → v.misses + 1 < v.limit → exec (.periodDeadline n) s = .next (next (v.misses + 1))) ∧
    ((s.port n).request = none → v.limit ≤ v.misses + 1 → s.Coherent →
      ∃ t, SessionEnded s t n .keepalive ∧ exec (.periodDeadline n) s = .next t)

/-- R103, R178: on a port that uses presence, a fall in READY clears the port, keeps its last sequence taken, and ends
an OPEN session with cause PRESENCE; in DEGRADED it only ends the session; in STARTING, and on a port that does not
use presence, and while the reset pin is low, it does nothing but be sensed. The command says whether a frame was
under way, the model's choice (log 26). -/
def Obligations.PresenceFallClearsThePort : Prop :=
  ∀ (n : Port) (midFrame : Bool) (s : State),
    let u := s.sense n false
    let cleared := u.setPort n { s.port n with
      decoder := if (s.port n).decoder = .idle ∧ midFrame = false then .idle else .skip,
      request := none, response := none, shifting := none }
    (s.resetLow = true → exec (.presenceFall n midFrame) s = .next u) ∧
    ((s.session n).presenceUsed = false ∨ s.partState = .starting ∨ (s.partState = .degraded ∧ s.isOpen n = false) →
      exec (.presenceFall n midFrame) s = .next u) ∧
    (s.resetLow = false → (s.session n).presenceUsed = true → s.partState = .ready → s.isOpen n = false →
      exec (.presenceFall n midFrame) s = .next cleared) ∧
    (s.resetLow = false → (s.session n).presenceUsed = true → s.partState = .ready → s.isOpen n = true → s.Coherent →
      ∃ t, SessionEnded cleared t n .presence ∧ exec (.presenceFall n midFrame) s = .next t) ∧
    (s.resetLow = false → (s.session n).presenceUsed = true → s.partState = .degraded → s.isOpen n = true → s.Coherent →
      ∃ t, SessionEnded u t n .presence ∧ exec (.presenceFall n midFrame) s = .next t)

/-! ## Claims (chapter 4) -/

/-- R27, R54, R69: a claim with no initial drive whose lines are all FREE is granted at once, whatever its patience: every
line is HELD by the requester with the default heir (unless that is the requester) and the term; other lines stay. With
an initial drive every move starts at the same event, or, where admission refuses one line's drive, the claim is refused
INTERLOCK with the slot and the line, and nothing is granted. The drive is put to admission for each line in ascending
order, each admitted change entered before the next (R53). -/
def Obligations.ClaimOfFreeLinesIsGranted : Prop :=
  DriveAllAdmitsInOrder ∧
  (∀ (h : Header) (target : RawTarget) (patience : BitVec 16) (term : BitVec 32) (drive : RawDrive) (urgency : Byte)
    (a : ClaimArgs) (t : Target) (s : State), s.Hears h .readyOnly (claimRight urgency) →
    claimArgs target patience term drive urgency = some a → s.resolve a.target = some t → a.drive = none →
    (∀ l ∈ t.lines, (s.line l).static.pinned = false ∧ (s.line l).holder ≠ .agent h.port ∧ (s.line l).state = .free) →
    ∃ u, (s.heard h 11).OnlyLines u ∧ u.interlocks = s.interlocks ∧
      (∀ l, u.line l = if l ∈ t.lines then (s.line l).granted h.port a.term s.lineTime else s.line l) ∧
      exec (.claim h target patience term drive urgency) s =
        .next (u.answered s h (Reply.of .granted (.lineTime s.lineTime)))) ∧
  (∀ (h : Header) (target : RawTarget) (patience : BitVec 16) (term : BitVec 32) (drive : RawDrive) (urgency : Byte)
    (a : ClaimArgs) (t : Target) (d : Drive) (s : State), s.Hears h .readyOnly (claimRight urgency) →
    claimArgs target patience term drive urgency = some a → s.resolve a.target = some t → a.drive = some d →
    (∀ l ∈ t.lines, (s.line l).static.pinned = false ∧ (s.line l).holder ≠ .agent h.port ∧ (s.line l).state = .free) →
    (∀ slot l, ((s.heard h 11).grantLines h.port a.term t.lines).driveAll (proposals t.lines d) = .error (slot, l) →
      exec (.claim h target patience term drive urgency) s =
        .next ((s.heard h 11).answered s h (Reply.of .interlock (.interlock slot l)))) ∧
    (∀ u, ((s.heard h 11).grantLines h.port a.term t.lines).driveAll (proposals t.lines d) = .ok u →
      (s.heard h 11).OnlyLines u ∧
      (∀ l, u.line l = if l ∈ t.lines then ((s.line l).granted h.port a.term s.lineTime).driven d s.lineTime
                       else s.line l) ∧
      exec (.claim h target patience term drive urgency) s =
        .next (u.answered s h (Reply.of .granted (.lineTime s.lineTime)))))

/-- R71, R77: a claim with patience, of which some line is not FREE, takes the lowest IDLE ticket and joins the pending
list: a PRIORITY entry behind the PRIORITY ones, a NORMAL entry at the end. With no IDLE ticket it is refused. -/
def Obligations.ClaimWaitsOnATicket : Prop :=
  ∀ (h : Header) (target : RawTarget) (patience : BitVec 16) (term : BitVec 32) (drive : RawDrive) (urgency : Byte)
    (a : ClaimArgs) (t : Target) (v : Live) (s : State), s.Hears h .readyOnly (claimRight urgency) →
    claimArgs target patience term drive urgency = some a → s.resolve a.target = some t →
    (s.heard h 11).live h.port = some v →
    (∀ l ∈ t.lines, (s.line l).static.pinned = false ∧ (s.line l).holder ≠ .agent h.port) →
    (∃ l ∈ t.lines, (s.line l).state ≠ .free) → 0 < a.patience →
    ((∀ k, v.tickets.get k ≠ .idle) → exec (.claim h target patience term drive urgency) s =
      .next ((s.heard h 11).answered s h (Reply.bare .noTicket))) ∧
    (∀ k, v.tickets.get k = .idle → (∀ j, j < k → v.tickets.get j ≠ .idle) →
      let w := { v with tickets := v.tickets.set k (.waiting t) }
      let e : Entry := { agent := h.port, ticket := k, target := t, urgency := a.urgency, arrival := s.lineTime,
                         deadline := s.lineTime + BitVec.ofNat 32 (a.patience * 1000), term := a.term, drive := a.drive }
      exec (.claim h target patience term drive urgency) s = .next (({ s.heard h 11 with
        sessions := (s.heard h 11).sessions.set h.port { (s.heard h 11).session h.port with live := some w }
        attention := s.attention.set h.port w.alerts
        pendingList :=
          if a.urgency = .priority then
            s.pendingList.filter (fun x => x.urgency == .priority) ++ e ::
              s.pendingList.filter (fun x => x.urgency == .normal)
          else s.pendingList ++ [e] } : State).answered s h (Reply.of .waiting (.waiting k s.lineTime))))

/-- R68, R70: an undefined group is NOT_FOUND; then PINNED, then ALREADY_HELD, each for every line before the next; then,
with patience 0 and some line not FREE, HELD_BY_OTHER for the lowest line with a holder, or NOT_FREE for the lowest
RELEASING one. Nothing but the keepalive changes. -/
def Obligations.ClaimIsRefused : Prop :=
  ∀ (h : Header) (target : RawTarget) (patience : BitVec 16) (term : BitVec 32) (drive : RawDrive) (urgency : Byte)
    (a : ClaimArgs) (s : State), s.Hears h .readyOnly (claimRight urgency) →
    claimArgs target patience term drive urgency = some a →
    let refused := fun (r : Reply) =>
      exec (.claim h target patience term drive urgency) s = .next ((s.heard h 11).answered s h r)
    let lowest := fun (ls : List LineId) (p : Line → Prop) (l : LineId) =>
      l ∈ ls ∧ p (s.line l) ∧ ∀ m ∈ ls, m < l → ¬ p (s.line m)
    (s.resolve a.target = none → refused (Reply.bare .notFound)) ∧
    (∀ t l, s.resolve a.target = some t → lowest t.lines (fun ln => ln.static.pinned = true) l →
      refused (Reply.of .pinned (.line l))) ∧
    (∀ t l, s.resolve a.target = some t → (∀ m ∈ t.lines, (s.line m).static.pinned = false) →
      lowest t.lines (fun ln => ln.holder = .agent h.port) l → refused (Reply.of .alreadyHeld (.line l))) ∧
    (∀ t, s.resolve a.target = some t →
      (∀ m ∈ t.lines, (s.line m).static.pinned = false ∧ (s.line m).holder ≠ .agent h.port) → a.patience = 0 →
      (∃ m ∈ t.lines, (s.line m).state ≠ .free) →
      (∀ l, lowest t.lines (fun ln => ln.holder ≠ .none) l → refused (Reply.of .heldByOther (.line l))) ∧
      (∀ l, (∀ m ∈ t.lines, (s.line m).holder = .none) → lowest t.lines (fun ln => ln.state ≠ .free) l →
        refused (Reply.of .notFree (.line l))))

/-- R76: CANCEL acts on the requester's own ticket by its state: WAITING, the entry leaves the list and the ticket is
IDLE; GRANTED, TOO_LATE; EXPIRED, the ticket is IDLE; IDLE, NOT_FOUND. No line changes and no scan is prompted. A number
above 3 is BAD_ARGUMENT. -/
def Obligations.CancelActsOnTheTicket : Prop :=
  (∀ (h : Header) (ticket : Byte) (k : TicketId) (v : Live) (s : State), s.Hears h .readyOnly .none →
    ticket.toNat = k.val → (s.heard h 1).live h.port = some v →
    let w := { v with tickets := v.tickets.set k .idle }
    let freed := fun (entries : List Entry) => exec (.cancel h ticket) s = .next (({ s.heard h 1 with
        sessions := (s.heard h 1).sessions.set h.port { (s.heard h 1).session h.port with live := some w }
        attention := s.attention.set h.port w.alerts
        pendingList := entries } : State).answered s h (Reply.bare .ok))
    (∀ t, v.tickets.get k = .waiting t →
      freed (s.pendingList.filter fun e => decide (¬ (e.agent = h.port ∧ e.ticket = k)))) ∧
    (∀ t time, v.tickets.get k = .expired t time → freed s.pendingList) ∧
    (∀ t time applied, v.tickets.get k = .granted t time applied →
      exec (.cancel h ticket) s = .next ((s.heard h 1).answered s h (Reply.bare .tooLate))) ∧
    (v.tickets.get k = .idle →
      exec (.cancel h ticket) s = .next ((s.heard h 1).answered s h (Reply.bare .notFound)))) ∧
  (∀ (h : Header) (ticket : Byte) (s : State), s.Hears h .readyOnly .none → 3 < ticket.toNat →
    exec (.cancel h ticket) s = .next ((s.heard h 1).answered s h (Reply.bare .badArgument)))

/-- R84: at a patience deadline the entry leaves the list, its ticket becomes EXPIRED with that line time, and the
attention output follows; no line changes. -/
def Obligations.PatienceDeadlineExpiresTheTicket : Prop :=
  ∀ (n : Port) (k : TicketId) (e : Entry) (v : Live) (s : State), e ∈ s.pendingList → e.agent = n → e.ticket = k →
    e.deadline = s.lineTime → (∀ d ∈ s.pendingList, d.agent = n → d.ticket = k → d = e) → s.live n = some v →
    let w := { v with tickets := v.tickets.set k (.expired e.target s.lineTime) }
    exec (.patienceDeadline n k) s = .next { s with
      sessions := s.sessions.set n { s.session n with live := some w }
      attention := s.attention.set n w.alerts
      pendingList := s.pendingList.filter fun d => decide (¬ (d.agent = n ∧ d.ticket = k)) }

/-! ## Requests on lines (chapters 1 and 2) -/

/-- R28, R29, R31, R34: the record tests of SET, RELEASE and EXTEND, each applied to every line of the target, in
ascending order, before the next: NOT_HOLDER, LINE_MOVING, LINE_FAULTED, IN_SEQUENCE as each rule lists them. The first
failure gives the outcome and the lowest failing line, and nothing but the keepalive changes. An undefined group is
NOT_FOUND. -/
def Obligations.RecordTestsRefuseInOrder : Prop :=
  ∀ (h : Header) (s : State) (l : LineId), s.Hears h .readyOnly .none →
    let held := fun (ln : Line) => ln.holder = .agent h.port
    let lowest := fun (ls : List LineId) (p : Line → Prop) =>
      l ∈ ls ∧ ¬ p (s.line l) ∧ ∀ m ∈ ls, m < l → p (s.line m)
    let all := fun (ls : List LineId) (p : Line → Prop) => ∀ m ∈ ls, p (s.line m)
    let refuses := fun (i : Instr) (length : Nat) (r : Reply) => exec i s = .next ((s.heard h length).answered s h r)
    (∀ es entries, setArgs es = some entries →
      let ls := entries.map (·.1)
      let no := fun (o : ReqOutcome) => refuses (.setDrives h es) (3 * es.length) (Reply.of o (.line l))
      (lowest ls held → no .notHolder) ∧
      (all ls held → lowest ls (fun ln => ln.state ≠ .moving) → no .lineMoving) ∧
      (all ls held → all ls (fun ln => ln.state ≠ .moving) → lowest ls (fun ln => ln.fault = .none) →
        no .lineFaulted) ∧
      (all ls held → all ls (fun ln => ln.state ≠ .moving) → all ls (fun ln => ln.fault = .none) →
        lowest ls (fun ln => ln.binding = none) → no .inSequence)) ∧
    (∀ raw name, targetArg raw = some name →
      (s.resolve name = none → refuses (.release h raw) 2 (Reply.bare .notFound)) ∧
      (∀ t, s.resolve name = some t →
        let no := fun (o : ReqOutcome) => refuses (.release h raw) 2 (Reply.of o (.line l))
        (lowest t.lines held → no .notHolder) ∧
        (all t.lines held → lowest t.lines (fun ln => ln.state ≠ .moving) → no .lineMoving) ∧
        (all t.lines held → all t.lines (fun ln => ln.state ≠ .moving) →
          lowest t.lines (fun ln => ln.binding = none) → no .inSequence))) ∧
    (∀ raw term name m, extendArgs raw term = some (name, m) →
      (s.resolve name = none → refuses (.extend h raw term) 6 (Reply.bare .notFound)) ∧
      (∀ t, s.resolve name = some t →
        let no := fun (o : ReqOutcome) => refuses (.extend h raw term) 6 (Reply.of o (.line l))
        (lowest t.lines held → no .notHolder) ∧
        (all t.lines held → lowest t.lines (fun ln => ln.binding = none) → no .inSequence)))

/-- R4 to R6, R29, R30, R54: a SET whose lines pass the record tests starts an ORDINARY move on each line whose drive
differs, or is refused INTERLOCK with the slot and the line, and then nothing changes. Other lines stay. The entries are
put to admission in ascending line order, each admitted change entered before the next (R53). -/
def Obligations.SetDrivesEveryLineOrNone : Prop :=
  DriveAllAdmitsInOrder ∧
  (∀ (es : List RawSetEntry) (entries : List (LineId × Drive)), setArgs es = some entries →
    (entries.map (·.1)).Pairwise (· < ·) ∧
    ∀ (l : LineId) (d : Drive), (l, d) ∈ entries ↔ ∃ e ∈ es, e.line.toNat = l.val ∧ driveArg e.drive = some d) ∧
  ∀ (h : Header) (es : List RawSetEntry) (entries : List (LineId × Drive)) (s : State), s.Hears h .readyOnly .none →
    setArgs es = some entries →
    (∀ e ∈ entries, (s.line e.1).holder = .agent h.port ∧ (s.line e.1).state ≠ .moving ∧
      (s.line e.1).fault = .none ∧ (s.line e.1).binding = none) →
    (∀ slot l, (s.heard h (3 * es.length)).driveAll entries = .error (slot, l) →
      exec (.setDrives h es) s =
        .next ((s.heard h (3 * es.length)).answered s h (Reply.of .interlock (.interlock slot l)))) ∧
    (∀ u, (s.heard h (3 * es.length)).driveAll entries = .ok u →
      (s.heard h (3 * es.length)).OnlyLines u ∧
      (∀ e ∈ entries, u.line e.1 = (s.line e.1).driven e.2 s.lineTime) ∧
      (∀ l, l ∉ entries.map (·.1) → u.line l = s.line l) ∧
      exec (.setDrives h es) s = .next (u.answered s h (Reply.bare .ok)))

/-- R32, R56: a RELEASE that passes its tests takes each line of the target to RELEASING with free_reason RELEASED, under
a RELEASE move to its present drive, or to its fallback, by its release disposition. FLOAT stands for a fallback exactly
where admission refuses it with the releases of the lower-numbered lines of the target already counted (R53, R56). Other
lines stay. -/
def Obligations.ReleaseStartsReleaseMoves : Prop :=
  ∀ (h : Header) (raw : RawTarget) (name : NamedTarget) (t : Target) (s : State), s.Hears h .readyOnly .none →
    targetArg raw = some name → s.resolve name = some t →
    (∀ l ∈ t.lines, (s.line l).holder = .agent h.port ∧ (s.line l).state ≠ .moving ∧ (s.line l).binding = none) →
    ∃ u, (s.heard h 2).OnlyLines u ∧ (∀ l, l ∉ t.lines → u.line l = s.line l) ∧
      (∀ l ∈ t.lines, (s.line l).static.disposition = .present →
        u.line l = (s.line l).released .released (s.line l).drive s.lineTime) ∧
      (∀ l ∈ t.lines, (s.line l).static.disposition = .fallback →
        u.line l = (s.line l).released .released (s.line l).static.fallback s.lineTime ∨
        u.line l = (s.line l).released .released .float s.lineTime) ∧
      (∀ l, t.lines = [l] → (s.line l).static.disposition = .fallback →
        u.line l = (s.line l).released .released
          (if (s.admission l (s.line l).static.fallback).isNone then (s.line l).static.fallback else .float) s.lineTime) ∧
      ((∀ m ∈ t.lines, (s.line m).move = none) → u.interlocks = s.interlocks ∧
        ∀ l ∈ t.lines, (s.line l).static.disposition = .fallback →
          let counted : State := { s with lines := Vector.ofFn fun m =>
            if m ∈ t.lines ∧ m < l then u.line m else s.line m }
          u.line l = (s.line l).released .released
            (if (counted.admission l (s.line l).static.fallback).isNone then (s.line l).static.fallback else .float)
            s.lineTime) ∧
      exec (.release h raw) s = .next (u.answered s h (Reply.bare .ok))

/-- R33, R34: SET_HEIR of a line that the requester holds writes its heir, and nothing else; of another line it is
refused NOT_HOLDER; an heir equal to the requester is no argument. EXTEND sets the term of every line of the target,
measured from the request, or removes it. That NOT_HOLDER carries the line is the model's reading (log 15). -/
def Obligations.SetHeirAndExtendWriteTheirFields : Prop :=
  (∀ (h : Header) (line heir : Byte) (l : LineId) (a : Option Port) (s : State), s.Hears h .readyOnly .none →
    line.toNat = l.val → ((heir = 0xFF ∧ a = none) ∨ ∃ n : Port, heir.toNat = n.val ∧ a = some n) →
    (a = some h.port → exec (.setHeir h line heir) s = .next ((s.heard h 2).answered s h (Reply.bare .badArgument))) ∧
    (a ≠ some h.port → (s.line l).holder = .agent h.port →
      exec (.setHeir h line heir) s =
        .next (((s.heard h 2).setLine l { s.line l with heir := a }).answered s h (Reply.bare .ok))) ∧
    (a ≠ some h.port → (s.line l).holder ≠ .agent h.port →
      exec (.setHeir h line heir) s = .next ((s.heard h 2).answered s h (Reply.of .notHolder (.line l))))) ∧
  (∀ (h : Header) (raw : RawTarget) (term : BitVec 32) (name : NamedTarget) (ms : Option Nat) (t : Target) (s : State),
    s.Hears h .readyOnly .none → extendArgs raw term = some (name, ms) → s.resolve name = some t →
    (∀ l ∈ t.lines, (s.line l).holder = .agent h.port ∧ (s.line l).binding = none) →
    exec (.extend h raw term) s = .next (({ s.heard h 6 with
      lines := Vector.ofFn fun l =>
        if l ∈ t.lines then
          { s.line l with term := ms.map (fun k => s.lineTime + BitVec.ofNat 32 (k * 1000)), termDue := false }
        else s.line l } : State).answered s h (Reply.bare .ok)))

/-- R18, R19: CLEAR_FAULT of a held, faulted, unbound line whose prior drive is admitted clears the fault and starts
the move back to the prior drive; each failed test gives its outcome and changes nothing. That NOT_HOLDER and
IN_SEQUENCE carry the line is the model's reading (log 15). -/
def Obligations.ClearFaultRestoresThePriorDrive : Prop :=
  ∀ (h : Header) (line : Byte) (l : LineId) (s : State), s.Hears h .readyOnly .none → line.toNat = l.val →
    let refused := fun (r : Reply) => exec (.clearFault h line) s = .next ((s.heard h 1).answered s h r)
    ((s.line l).holder ≠ .agent h.port → refused (Reply.of .notHolder (.line l))) ∧
    ((s.line l).holder = .agent h.port → (s.line l).fault = .none → refused (Reply.bare .notFound)) ∧
    (∀ prior, (s.line l).holder = .agent h.port → (s.line l).fault = .readback → (s.line l).priorDrive = some prior →
      (∀ k, (s.line l).binding = some k → refused (Reply.of .inSequence (.line l))) ∧
      (∀ slot, (s.line l).binding = none → s.admission l prior = some slot →
        refused (Reply.of .interlock (.interlock slot l))) ∧
      ((s.line l).binding = none → s.admission l prior = none →
        ∃ u, (s.heard h 1).OnlyLines u ∧ (∀ m, m ≠ l → u.line m = s.line m) ∧
          u.line l = ({ s.line l with fault := .none, priorDrive := none } : Line).driven prior s.lineTime ∧
          exec (.clearFault h line) s = .next (u.answered s h (Reply.bare .ok))))

/-- R43, R44: SNAPSHOT and INSPECT return what the records hold at the event, and change none. They are refused STARTING
and DEGRADED, and a line above 47 is BAD_ARGUMENT. -/
def Obligations.SnapshotAndInspectReadTheRecords : Prop :=
  (∀ (h : Header) (s : State), s.Hears h .readyOnly .none →
    exec (.snapshot h) s = .next ((s.heard h 0).answered s h (Reply.of .ok (.snapshot
      (allLines.map fun l => { observed := (s.line l).observed, state := (s.line l).state,
                               holder := (s.line l).holder, drive := (s.line l).drive, fault := (s.line l).fault })
      s.lineTime))) ∧
    (∀ (line : Byte) (l : LineId), line.toNat = l.val →
      exec (.inspect h line) s = .next ((s.heard h 1).answered s h (Reply.of .ok (.inspect l (s.line l)
        ((s.line l).term.map fun t => if (s.line l).termDue then 0 else ((t - s.lineTime).toNat + 999) / 1000)
        s.lineTime))))) ∧
  (∀ (h : Header) (line : Byte) (s : State),
    (s.Listens h.port → ∀ o, ((s.partState = .starting ∧ o = .starting) ∨ (s.partState = .degraded ∧ o = .degraded)) →
      exec (.snapshot h) s = .next ((s.taken h 0).answered s h (Reply.bare o)) ∧
      exec (.inspect h line) s = .next ((s.taken h 1).answered s h (Reply.bare o))) ∧
    (s.Hears h .readyOnly .none → 47 < line.toNat →
      exec (.inspect h line) s = .next ((s.heard h 1).answered s h (Reply.bare .badArgument))))

/-! ## Events of lines (chapters 1 and 2) -/

/-- R1, R2, R13, R131, R132, R145: an observed-level change writes the line's observed level, moves its readback check
between ARMED and COUNTING, and turns the keeper of a pad in KEEP to the level imposed; each watch and active wake watch of
that line acts on it by the three cases of R131, their attention and wake outputs follow, and no other record changes. A
level equal to the one observed is no change, and nothing is sensed while the reset pin is low. The pad in each drive: a
KEEP drive is strong at its entry from another drive and then holds weakly; a command to the drive it has changes nothing.
That the keeper's level is the level last sensed once the microsecond of the entry is over is the model's reading
(log 24). -/
def Obligations.ObservedLevelChangeReachesTheLine : Prop :=
  (∀ (ln : Line) (present d : Drive) (level : Level) (now : LineTime),
    ln.command ln.drive now = ln ∧
    (ln.drive ≠ .keep level → ln.command (.keep level) now =
      { ln with drive := .keep level, keeper := some { level := level, drivenAt := now } }) ∧
    (present.entryLevel d = some level ↔ d = .keep level ∧ present ≠ d) ∧
    (ln.drive = .float ∨ ln.drive = .sink true → ln.pad = .highImpedance) ∧
    (ln.drive = .sink false → ln.pad = .strong false) ∧
    (ln.drive = .drive level → ln.pad = .strong level) ∧
    (∀ k held, ln.drive = .keep held → ln.keeper = some k → ln.pad = .weakHold k.level)) ∧
  ∀ (l : LineId) (level : Level) (s : State),
    (s.resetLow = true ∨ (s.line l).observed = level → exec (.observedLevelChange l level) s = .next s) ∧
    (s.resetLow = false → (s.line l).observed ≠ level →
      ∃ t, exec (.observedLevelChange l level) s = .next t ∧
        t = { s with lines := t.lines, sessions := t.sessions, attention := t.attention,
                     wakeWatches := t.wakeWatches, wakeOut := t.wakeOut } ∧
        (∀ m, m ≠ l → t.line m = s.line m) ∧
        t.line l = { s.line l with
          observed := level
          keeper := (s.line l).keeper.map fun k => { k with level := level }
          readback := match (s.line l).readback with
            | .off => .off
            | .armed => if (s.line l).drive.asserted = some level then .armed
                        else .counting (s.lineTime + BitVec.ofNat 32 (s.line l).static.settle)
            | .counting d => if (s.line l).drive.asserted = some level then .armed else .counting d } ∧
        (∀ n, t.isOpen n = s.isOpen n ∧ ∀ v ∈ s.live n, ∀ w ∈ t.live n,
          w = { v with watches := w.watches } ∧
          ∀ id, w.watches.get id = (v.watches.get id).map fun x =>
            if x.line = l then x.changed level s.lineTime else x) ∧
        (∀ n, t.attention.get n = t.attentionDue n) ∧
        t.wakeWatches = s.wakeWatches.map (fun w =>
          if w.line = l then { w with view := w.view.map fun f => f.changed w.filter level s.lineTime }
          else w) ∧
        ∀ n, t.wakeOut.get n = true ↔ s.wakeOut.get n = true ∨
          ∃ w ∈ s.wakeWatches, w.target = n ∧ w.line = l ∧ w.filter = 0 ∧ w.edge.Hits level ∧
            ∃ f ∈ w.view, f.filtered ≠ level)

/-- R7, R25, R26: at the end of the first of two stages the second begins and the origin is dropped; at the end of the
last stage a MOVING line that is not bound and has no term due is HELD, and checked where its drive is a checked one; one
with its term due is released with TERM_ENDED. -/
def Obligations.StageEndContinuesOrCompletesTheMove : Prop :=
  ∀ (l : LineId) (m : Move) (s : State), (s.line l).move = some m → m.deadline = s.lineTime →
    let ends := fun (x : Line) => ∃ t, exec (.stageEnd l) s = .next t ∧ s.OnlyLines t ∧ s.SettledTo t ∧
      t.line l = x ∧ ∀ k, k ≠ l → t.line k = s.line k
    (∀ first target, m.stages = .two first target → m.index = .first →
      ends { (s.line l).commanded target s.lineTime with
        move := some { m with index := .second, origin := none,
                              deadline := s.lineTime + BitVec.ofNat 32 (s.line l).static.settle } }) ∧
    ((∀ first target, m.stages = .two first target → m.index = .second) → (s.line l).state = .moving →
      (s.line l).termDue = false → (s.line l).binding = none →
      ends (({ s.line l with state := .held, move := none } : Line).checkedIn s.lineTime)) ∧
    ((∀ first target, m.stages = .two first target → m.index = .second) → (s.line l).state = .moving →
      (s.line l).termDue = true → ∀ n v, (s.line l).holder = .agent n → s.live n = some v →
      ∃ u t d, exec (.stageEnd l) s = .next t ∧ s.OnlyLines u ∧ s.SettledTo u ∧
        u.line l = { s.line l with move := none } ∧ (∀ k, k ≠ l → u.line k = s.line k ∧ t.line k = s.line k) ∧
        t.line l = (s.line l).released .termEnded d s.lineTime ∧
        ((s.line l).static.disposition = .present → d = (s.line l).drive) ∧
        ((s.line l).static.disposition = .fallback →
          d = if (u.admission l (s.line l).static.fallback).isNone then (s.line l).static.fallback else .float) ∧
        ∃ w ∈ t.live n, ((w.lineNotices.get l).termEnded).isSome = true)

/-- R26, R80, R81, R83: when a RELEASING line's move ends it is FREE, and the scan grants it, at that event, to the first
entry in list order that waits for it alone, with no drive, where no entry before it and none after can be completed; where
no entry at all can be completed, only that line changes. In general the scan walks the whole list in order: an entry whose
lines are all FREE at its turn is granted, a group as one, with its initial drive applied or refused, and the others are
passed over. -/
def Obligations.LineBecomesFreeAndTheListIsScanned : Prop :=
  ∀ (l : LineId) (m : Move) (s : State), (s.line l).move = some m → m.deadline = s.lineTime →
    (∀ first target, m.stages = .two first target → m.index = .second) → (s.line l).state = .releasing →
    let free : Line := { s.line l with state := .free, move := none }
    ((∀ e ∈ s.pendingList, ∃ k ∈ e.target.lines, k ≠ l ∧ (s.line k).state ≠ .free) →
      ∃ t, exec (.stageEnd l) s = .next t ∧ s.OnlyLines t ∧ t.line l = free ∧ ∀ k, k ≠ l → t.line k = s.line k) ∧
    (∀ first e rest v, s.pendingList = first ++ e :: rest → e.target = .line l → e.drive = none →
      s.live e.agent = some v → (∀ d ∈ first ++ rest, d.agent ≠ e.agent ∨ d.ticket ≠ e.ticket) →
      (∀ d ∈ first, ∃ k ∈ d.target.lines, k ≠ l ∧ (s.line k).state ≠ .free) →
      (∀ d ∈ rest, ∃ k ∈ d.target.lines, k = l ∨ (s.line k).state ≠ .free) →
      ∃ t, exec (.stageEnd l) s = .next t ∧ t.pendingList = first ++ rest ∧
        t.line l = free.granted e.agent e.term s.lineTime ∧ (∀ k, k ≠ l → t.line k = s.line k) ∧
        ∃ w ∈ t.live e.agent, w.tickets.get e.ticket = .granted e.target s.lineTime .notAsked) ∧
    ∃ u t, exec (.stageEnd l) s = .next t ∧ s.OnlyLines u ∧ s.SettledTo u ∧ u.line l = free ∧
      (∀ k, k ≠ l → u.line k = s.line k) ∧ Scanned s.pendingList u t

/-- R14, R15, R120: at the readback deadline the pad goes to FLOAT at once, the drive is kept as the prior drive, the fault is
READBACK, and an agent that holds the line has LINE_FAULTED pending, with the first line time of the pair. On a bound line
it also halts a HOLDING run with reason FAULT, makes a STEPPING slot HALTING, and leaves a HALTING one. -/
def Obligations.ReadbackDeadlineFaultsTheLine : Prop :=
  (∀ (l : LineId) (s : State), (s.line l).readback = .counting s.lineTime → (s.line l).binding = none →
    ∃ t, exec (.readbackDeadline l) s = .next t ∧
      t = { s with lines := t.lines, interlocks := t.interlocks, sessions := t.sessions, attention := t.attention } ∧
      t.line l = { (s.line l).commanded .float s.lineTime with
        priorDrive := some (s.line l).drive, fault := .readback, readback := .off } ∧
      (∀ k, k ≠ l → t.line k = s.line k) ∧
      (∀ n v, (s.line l).holder = .agent n → s.live n = some v → ∃ w ∈ t.live n,
        (w.lineNotices.get l).faulted =
          some (((v.lineNotices.get l).faulted).getD s.lineTime)) ∧
      (∀ n, (s.line l).holder ≠ .agent n → t.live n = s.live n)) ∧
  (∀ (l : LineId) (k : SlotId) (r : Run) (s : State), (s.line l).readback = .counting s.lineTime →
    (s.line l).binding = some k → s.run k = some r →
    ∃ u t, exec (.readbackDeadline l) s = .next t ∧
      u.line l = { (s.line l).commanded .float s.lineTime with
        priorDrive := some (s.line l).drive, fault := .readback, readback := .off } ∧
      (∀ j, j ≠ l → u.line j = s.line j) ∧ u.slots = s.slots ∧
      (∀ n v, (s.line l).holder = .agent n → s.live n = some v →
        ∃ w ∈ u.live n, ((w.lineNotices.get l).faulted).isSome = true) ∧
      (r.phase = .stepping → t = u.setRun k (some { r with phase := .halting (.fault l) })) ∧
      (∀ c, r.phase = .halting c → t = u) ∧
      (∀ d, r.phase = .holding d → RunEnded u t k r (.halted k r.step (.fault l) s.lineTime)))

/-- R35, R36: at its term deadline a HELD line goes to RELEASING with free_reason TERM_ENDED and its holder has
TERM_ENDED pending; a MOVING line is marked term_due and goes on. -/
def Obligations.TermDeadlineEndsTheHolding : Prop :=
  ∀ (l : LineId) (s : State), (s.line l).term = some s.lineTime → (s.line l).termDue = false →
    ((s.line l).state = .moving →
      exec (.termDeadline l) s = .next (s.setLine l { s.line l with termDue := true })) ∧
    (∀ n v, (s.line l).state = .held → (s.line l).holder = .agent n → s.live n = some v →
      ∃ t d, exec (.termDeadline l) s = .next t ∧
        t = { s with lines := t.lines, interlocks := t.interlocks, sessions := t.sessions, attention := t.attention } ∧
        t.line l = (s.line l).released .termEnded d s.lineTime ∧ (∀ k, k ≠ l → t.line k = s.line k) ∧
        ((s.line l).static.disposition = .present → d = (s.line l).drive) ∧
        ((s.line l).static.disposition = .fallback →
          d = if (s.admission l (s.line l).static.fallback).isNone then (s.line l).static.fallback else .float) ∧
        ∃ w ∈ t.live n, (w.lineNotices.get l).termEnded =
          some (((v.lineNotices.get l).termEnded).getD s.lineTime))

/-! ## Interlocks (chapter 3) -/

/-- R50 to R52: admission of line x going to drive d is refused by the lowest slot whose rule names x and is matched by
the hypothetical set, a RESERVED rule already matched being left out where d adds no level; and a drive equal to the
present one, or one that asserts nothing, is admitted for a line in no move while no rule of the table is matched. -/
def Obligations.AdmissionFollowsTheRules : Prop :=
  ∀ (x : LineId) (d : Drive) (s : State),
    let sets := fun (l : LineId) =>
      if l = x then (s.line x).drive.levels.union d.levels else s.assertion l
    let refuses := fun (k : RuleSlot) => ∃ r status origin, s.ruleAt k = .rule r status origin ∧ (r.x = x ∨ r.y = x) ∧
      r.matchedBy sets = true ∧
      ¬ (status = .reserved ∧ r.matchedBy s.assertion = true ∧
          (d.asserted = none ∨ d.asserted = (s.line x).drive.asserted))
    (s.admission x d = none ↔ ∀ k, ¬ refuses k) ∧
    (∀ k, s.admission x d = some k ↔ refuses k ∧ ∀ j, j < k → ¬ refuses j) ∧
    (s.RulesHold → (s.line x).move = none → (d = (s.line x).drive ∨ d.asserted = none) → s.admission x d = none)

/-- R59, R60, R61: ADD_INTERLOCK places the rule in the lowest EMPTY slot, OCCUPIED, of origin RUNTIME with the requesting
port; TABLE_FULL where no slot is EMPTY, then VIOLATED_NOW where the assertion set matches it. DROP_INTERLOCK empties a
slot that holds a runtime rule, whichever port added it; NOT_FOUND where it is EMPTY, FIXED_ENTRY for a fixed rule.
LIST_INTERLOCKS returns every slot that is not EMPTY, in ascending order, and the number of fixed rules, counted as the
slots that hold one, the model's reading (log 28). -/
def Obligations.RequestsOnTheInterlockTable : Prop :=
  (∀ (h : Header) (x a y b : Byte) (r : Rule) (s : State), s.Hears h .readyOnly .configure → ruleArgs x a y b = some r →
    let u := s.heard h 4
    ((∀ k, s.ruleAt k ≠ .empty) → exec (.addInterlock h x a y b) s = .next (u.answered s h (Reply.bare .tableFull))) ∧
    (∀ k, s.ruleAt k = .empty → (∀ j, j < k → s.ruleAt j ≠ .empty) →
      (r.matchedBy s.assertion = true →
        exec (.addInterlock h x a y b) s = .next (u.answered s h (Reply.bare .violatedNow))) ∧
      (r.matchedBy s.assertion = false →
        exec (.addInterlock h x a y b) s =
          .next ((u.setRule k (.rule r .occupied (.runtime h.port))).answered s h (Reply.of .ok (.ruleSlot k)))))) ∧
  (∀ (h : Header) (s : State),
    (∀ (slot : Byte) (k : RuleSlot), s.Hears h .readyOnly .configure → slot.toNat = k.val →
      let u := s.heard h 1
      (s.ruleAt k = .empty → exec (.dropInterlock h slot) s = .next (u.answered s h (Reply.bare .notFound))) ∧
      (∀ r st, s.ruleAt k = .rule r st .fixed →
        exec (.dropInterlock h slot) s = .next (u.answered s h (Reply.bare .fixedEntry))) ∧
      (∀ r st n, s.ruleAt k = .rule r st (.runtime n) →
        exec (.dropInterlock h slot) s = .next ((u.setRule k .empty).answered s h (Reply.bare .ok)))) ∧
    (s.Hears h .readyOnly .none →
      ∃ entries fixed, exec (.listInterlocks h) s =
          .next ((s.heard h 0).answered s h (Reply.of .ok (.interlocks fixed entries))) ∧
        fixed = (entries.filter fun e => decide (e.origin = .fixed)).length ∧
        (entries.map (·.slot)).Pairwise (· < ·) ∧
        ∀ e, e ∈ entries ↔ s.ruleAt e.slot = .rule e.rule e.status e.origin))

/-! ## Sequences (chapter 6) -/

/-- R110, R111: STORE_SEQUENCE fills or replaces an entry that is neither fixed nor in use; DROP_SEQUENCE empties a
runtime entry that is not in use; each refusal changes nothing. A value out of its range is BAD_ARGUMENT. -/
def Obligations.StoreAndDropSequence : Prop :=
  (∀ (h : Header) (s : State), s.Hears h .readyOnly .configure →
    let inUse := fun (q : SeqNumber) => ∃ k, ∃ r ∈ s.run k, r.sequence = q
    (∀ number ss q steps, storeArgs number ss = some (q, steps) →
      let u := s.heard h (1 + 5 * ss.length)
      let answers := fun (t : State) (r : Reply) => exec (.storeSequence h number ss) s = .next (t.answered s h r)
      ((∃ x, s.sequence q = some x ∧ x.origin = .profile) → answers u (Reply.bare .fixedEntry)) ∧
      ((∀ x, s.sequence q = some x → x.origin = .runtime) → inUse q → answers u (Reply.bare .seqBusy)) ∧
      ((∀ x, s.sequence q = some x → x.origin = .runtime) → ¬ inUse q →
        answers (u.setSequence q (some { origin := .runtime, steps := steps })) (Reply.bare .ok))) ∧
    (∀ (number : Byte) (q : SeqNumber), number.toNat = q.val →
      let u := s.heard h 1
      let answers := fun (t : State) (r : Reply) => exec (.dropSequence h number) s = .next (t.answered s h r)
      (s.sequence q = none → answers u (Reply.bare .notFound)) ∧
      (∀ x, s.sequence q = some x → x.origin = .profile → answers u (Reply.bare .fixedEntry)) ∧
      (∀ x, s.sequence q = some x → x.origin = .runtime → inUse q → answers u (Reply.bare .seqBusy)) ∧
      (∀ x, s.sequence q = some x → x.origin = .runtime → ¬ inUse q →
        answers (u.setSequence q none) (Reply.bare .ok)))) ∧
  (∀ (h : Header) (s : State), s.Hears h .readyOnly .configure →
    (∀ (number : Byte) (ss : List RawStep), 7 < number.toNat ∨ ss = [] ∨ 16 < ss.length ∨
      (∃ st ∈ ss, 47 < st.line.toNat ∨ 3 < st.drive.mode.toNat ∨ 1 < st.drive.level.toNat ∨ 60000 < st.hold.toNat) →
      exec (.storeSequence h number ss) s =
        .next ((s.heard h (1 + 5 * ss.length)).answered s h (Reply.bare .badArgument))) ∧
    (∀ number : Byte, 7 < number.toNat →
      exec (.dropSequence h number) s = .next ((s.heard h 1).answered s h (Reply.bare .badArgument))))

/-- R113 to R116: RUN takes the lowest IDLE slot, binds every line of the sequence to it and begins step 1; the outcome is OK
whatever step 1 does: its line moves, it holds, it is refused, or, with no move and a hold of 0, the steps after it run on
at the same event (R118). R114: an EMPTY entry is
NOT_FOUND; then SEQ_BUSY where no slot is IDLE; then the record tests NOT_HOLDER, LINE_MOVING, LINE_FAULTED, HAS_TERM and IN_SEQUENCE, each over the line set before the next, with the lowest
failing line. -/
def Obligations.RunBindsTheLinesAndBegins : Prop :=
  (∀ (h : Header) (number : Byte) (q : SeqNumber) (k : SlotId) (x : Sequence) (s : State),
    s.Hears h .readyOnly .none → number.toNat = q.val → s.sequence q = some x →
    s.run k = none → (∀ j, j < k → s.run j ≠ none) →
    (∀ l ∈ s.lineSet q, (s.line l).holder = .agent h.port ∧ (s.line l).state ≠ .moving ∧ (s.line l).fault = .none ∧
      (s.line l).term = none ∧ (s.line l).binding = none) →
    let r : Run := { sequence := q, agent := h.port, step := 1, phase := .stepping }
    let bound : State := { s.heard h 1 with
      slots := s.slots.set k (some r)
      lines := Vector.ofFn fun l => if l ∈ s.lineSet q then { s.line l with binding := some k } else s.line l }
    ∃ t, exec (.runSequence h number) s = .next (t.answered s h (Reply.of .ok (.sequencerSlot k))) ∧
      StepsBegun k t x.steps r bound) ∧
  (∀ (h : Header) (number : Byte) (q : SeqNumber) (l : LineId) (s : State), s.Hears h .readyOnly .none →
    number.toNat = q.val →
    let refused := fun (r : Reply) => exec (.runSequence h number) s = .next ((s.heard h 1).answered s h r)
    let lowest := fun (p : Line → Prop) =>
      l ∈ s.lineSet q ∧ ¬ p (s.line l) ∧ ∀ m ∈ s.lineSet q, m < l → p (s.line m)
    let all := fun (p : Line → Prop) => ∀ m ∈ s.lineSet q, p (s.line m)
    let held := fun (ln : Line) => ln.holder = .agent h.port
    (s.sequence q = none → refused (Reply.bare .notFound)) ∧
    (s.sequence q ≠ none → (∀ k, s.run k ≠ none) → refused (Reply.bare .seqBusy)) ∧
    (s.sequence q ≠ none → (∃ k, s.run k = none) →
      (lowest held → refused (Reply.of .notHolder (.line l))) ∧
      (all held → lowest (fun ln => ln.state ≠ .moving) → refused (Reply.of .lineMoving (.line l))) ∧
      (all held → all (fun ln => ln.state ≠ .moving) → lowest (fun ln => ln.fault = .none) →
        refused (Reply.of .lineFaulted (.line l))) ∧
      (all held → all (fun ln => ln.state ≠ .moving) → all (fun ln => ln.fault = .none) →
        lowest (fun ln => ln.term = none) → refused (Reply.of .hasTerm (.line l))) ∧
      (all held → all (fun ln => ln.state ≠ .moving) → all (fun ln => ln.fault = .none) →
        all (fun ln => ln.term = none) → lowest (fun ln => ln.binding = none) →
        refused (Reply.of .inSequence (.line l)))))

/-- R121: ABORT of an IDLE slot is NOT_FOUND and of another agent's run NOT_HOLDER; it makes a STEPPING slot HALTING with
reason ABORTED, halts a HOLDING one at once, and leaves a HALTING one. It moves no line. A slot above 1 is BAD_ARGUMENT. -/
def Obligations.AbortHaltsTheRun : Prop :=
  (∀ (h : Header) (slot : Byte) (k : SlotId) (s : State), s.Hears h .readyOnly .none → slot.toNat = k.val →
    let u := s.heard h 1
    let answers := fun (t : State) (o : ReqOutcome) => exec (.abortRun h slot) s = .next (t.answered s h (Reply.bare o))
    (s.run k = none → answers u .notFound) ∧
    (∀ r, s.run k = some r → r.agent ≠ h.port → answers u .notHolder) ∧
    (∀ r, s.run k = some r → r.agent = h.port → r.phase = .stepping →
      answers (u.setRun k (some { r with phase := .halting .aborted })) .ok) ∧
    (∀ r c, s.run k = some r → r.agent = h.port → r.phase = .halting c → answers u .ok) ∧
    (∀ r d, s.run k = some r → r.agent = h.port → r.phase = .holding d →
      ∃ t, RunEnded u t k r (.halted k r.step .aborted s.lineTime) ∧ answers t .ok)) ∧
  (∀ (h : Header) (slot : Byte) (s : State), s.Hears h .readyOnly .none → 1 < slot.toNat →
    exec (.abortRun h slot) s = .next ((s.heard h 1).answered s h (Reply.bare .badArgument)))

/-- R116, R118: at a hold's deadline the next step begins, or, after the last step, the run has finished: its lines are
unbound, the slot is IDLE and SEQ_FINISHED is pending in the runner's session. A next step with no move and a hold of 0
ends at once, and the step after it begins at the same event. -/
def Obligations.HoldDeadlineBeginsTheNextStep : Prop :=
  ∀ (k : SlotId) (r : Run) (s : State), s.run k = some r → r.phase = .holding s.lineTime →
    (∃ t, exec (.holdDeadline k) s = .next t ∧
      StepsBegun k t ((s.steps r.sequence).drop r.step) { r with step := r.step + 1 }
        (s.setRun k (some { r with step := r.step + 1 }))) ∧
    ((s.steps r.sequence).drop r.step = [] →
      ∃ t, exec (.holdDeadline k) s = .next t ∧ RunEnded s t k r (.finished k s.lineTime))

/-- R117, R122: when the move of the step completes on a bound line, the line is HELD and checked; a STEPPING slot becomes
HOLDING until the step's hold is over, or, with a hold of 0, goes on to the next step at the same event (R118), and a
HALTING one halts with its recorded reason. -/
def Obligations.StepMoveEndHoldsOrHalts : Prop :=
  ∀ (l : LineId) (m : Move) (k : SlotId) (r : Run) (s : State), (s.line l).move = some m → m.deadline = s.lineTime →
    (∀ first target, m.stages = .two first target → m.index = .second) → (s.line l).state = .moving →
    (s.line l).termDue = false → (s.line l).binding = some k → s.run k = some r →
    let ended := ({ s.line l with state := .held, move := none } : Line).checkedIn s.lineTime
    ∃ u t, exec (.stageEnd l) s = .next t ∧ s.OnlyLines u ∧ s.SettledTo u ∧ u.line l = ended ∧
      (∀ j, j ≠ l → u.line j = s.line j) ∧
      (∀ st, r.phase = .stepping → (s.steps r.sequence)[r.step - 1]? = some st → 0 < st.hold →
        t = u.setRun k (some { r with phase := .holding (s.lineTime + BitVec.ofNat 32 (st.hold * 1000)) })) ∧
      (∀ st, r.phase = .stepping → (s.steps r.sequence)[r.step - 1]? = some st → st.hold = 0 →
        StepsBegun k t ((s.steps r.sequence).drop r.step) { r with step := r.step + 1 }
          (u.setRun k (some { r with step := r.step + 1 }))) ∧
      (∀ c, r.phase = .halting c → RunEnded u t k r (.halted k r.step c.reason s.lineTime))

/-! ## Watches, notices and wake (chapter 7) -/

/-- R130, R133: ADD_WATCH takes the lowest free id, seeded with the line's observed level, or is TABLE_FULL; DROP_WATCH
removes a record with its notice, or is NOT_FOUND. A value out of its range is BAD_ARGUMENT. -/
def Obligations.AddAndDropWatch : Prop :=
  (∀ (h : Header) (v : Live) (s : State), s.Hears h .readyOnly .none →
    (∀ line edge filter urgency a, watchArgs line edge filter urgency = some a → (s.heard h 5).live h.port = some v →
      ((∀ id, v.watches.get id ≠ none) → exec (.addWatch h line edge filter urgency) s =
        .next ((s.heard h 5).answered s h (Reply.bare .tableFull))) ∧
      (∀ id, v.watches.get id = none → (∀ j, j < id → v.watches.get j ≠ none) →
        exec (.addWatch h line edge filter urgency) s = .next (((s.heard h 5).setSession h.port
          { (s.heard h 5).session h.port with live := some { v with watches := v.watches.set id (some
            { line := a.line, edge := a.edge, filter := a.filter, urgent := a.urgent, pending := none,
              view := { filtered := (s.line a.line).observed, candidate := none } }) } }).answered s h
          (Reply.of .ok (.watchAdded id (s.line a.line).observed s.lineTime))))) ∧
    (∀ (byte : Byte) (id : WatchId), byte.toNat = id.val → (s.heard h 1).live h.port = some v →
      (v.watches.get id = none →
        exec (.dropWatch h byte) s = .next ((s.heard h 1).answered s h (Reply.bare .notFound))) ∧
      (v.watches.get id ≠ none →
        let w := { v with watches := v.watches.set id none }
        exec (.dropWatch h byte) s = .next (({ s.heard h 1 with
          sessions := (s.heard h 1).sessions.set h.port { (s.heard h 1).session h.port with live := some w }
          attention := s.attention.set h.port w.alerts } : State).answered s h (Reply.bare .ok))))) ∧
  (∀ (h : Header) (s : State), s.Hears h .readyOnly .none →
    (∀ (line edge : Byte) (filter : BitVec 16) (urgency : Byte),
      47 < line.toNat ∨ 2 < edge.toNat ∨ 50000 < filter.toNat ∨ 1 < urgency.toNat →
      exec (.addWatch h line edge filter urgency) s = .next ((s.heard h 5).answered s h (Reply.bare .badArgument))) ∧
    (∀ id : Byte, 15 < id.toNat →
      exec (.dropWatch h id) s = .next ((s.heard h 1).answered s h (Reply.bare .badArgument))))

/-- R137, R138: NOTICES returns the number of pending notices, the first 20 of them, each with its kind, index and content,
whether there are more, and the line time, and changes nothing; urgent notices come first, then by kind, then by index. -/
def Obligations.NoticesArePresentedInOrder : Prop :=
  ∀ (h : Header) (v : Live) (s : State), s.Hears h .readyOnly .none → (s.heard h 0).live h.port = some v →
    ∃ all : List Notice, exec (.notices h) s = .next ((s.heard h 0).answered s h
        (Reply.of .ok (.notices all.length (decide (20 < all.length)) s.lineTime (all.take 20)))) ∧
      all.Pairwise (fun a b => (a.urgent = true ∧ b.urgent = false) ∨ (a.urgent = b.urgent ∧
        (a.kind.number < b.kind.number ∨ (a.kind = b.kind ∧ a.index < b.index)))) ∧
      ∀ x : Notice, x ∈ all ↔
        (∃ q slot step reason time, v.outcomes.get q = some (.halted slot step reason time) ∧
          x = ⟨.seqHalted, q.val, true, .seqHalted slot step reason time⟩) ∨
        (∃ l time, (v.lineNotices.get l).faulted = some time ∧ x = ⟨.lineFaulted, l.val, true, .lineFaulted time⟩) ∨
        (∃ l lost time, (v.lineNotices.get l).inherited = some (lost, time) ∧
          x = ⟨.lineInherited, l.val, true, .lineInherited lost time⟩) ∨
        (∃ id w e, v.watches.get id = some w ∧ w.pending = some e ∧
          x = ⟨.watchEdge, id.val, w.urgent, .watchEdge w.line e.count e.stamp w.view.filtered⟩) ∨
        (∃ n cause time, v.losses.get n = some (cause, time) ∧
          x = ⟨.agentLost, n.val, false, .agentLost cause time⟩) ∨
        (∃ k target time applied, v.tickets.get k = .granted target time applied ∧
          x = ⟨.claimGranted, k.val, false, .claimGranted target time applied⟩) ∨
        (∃ k target time, v.tickets.get k = .expired target time ∧
          x = ⟨.claimExpired, k.val, false, .claimExpired target time⟩) ∨
        (∃ l time, (v.lineNotices.get l).termEnded = some time ∧ x = ⟨.termEnded, l.val, false, .termEnded time⟩) ∨
        (∃ q slot time, v.outcomes.get q = some (.finished slot time) ∧
          x = ⟨.seqFinished, q.val, false, .seqFinished slot time⟩)

/-- R139: ACK takes its identifiers in order; each that names a pending notice clears it, by the table of its nine kinds,
and is counted cleared; one that names none is skipped and counted so, a second naming of the same notice among them; the
outcome is OK, and the attention output follows. -/
def Obligations.AckClearsWhatItNames : Prop :=
  (∀ (h : Header) (raw : List RawNoticeId) (ids : List NoticeId) (v : Live) (s : State), s.Hears h .readyOnly .none →
    ackArgs raw = some ids → (s.heard h (2 * raw.length)).live h.port = some v →
    let w := (v.acknowledgeAll ids).1
    let cleared := (v.acknowledgeAll ids).2
    exec (.ack h raw) s = .next (({ s.heard h (2 * raw.length) with
      sessions := (s.heard h (2 * raw.length)).sessions.set h.port
        { (s.heard h (2 * raw.length)).session h.port with live := some w }
      attention := s.attention.set h.port w.alerts } : State).answered s h
        (Reply.of .ok (.acked cleared (ids.length - cleared))))) ∧
  (∀ (v : Live) (id : NoticeId) (rest : List NoticeId),
    v.acknowledgeAll [] = (v, 0) ∧
    (v.acknowledge id = none → v.acknowledgeAll (id :: rest) = v.acknowledgeAll rest) ∧
    (∀ w, v.acknowledge id = some w → w.acknowledge id = none ∧
      v.acknowledgeAll (id :: rest) = ((w.acknowledgeAll rest).1, (w.acknowledgeAll rest).2 + 1))) ∧
  (∀ v : Live,
    (∀ k, (∀ w e, v.watches.get k = some w → w.pending = some e →
        v.acknowledge (.watchEdge k) = some { v with watches := v.watches.set k (some { w with pending := none }) }) ∧
      ((∀ w e, v.watches.get k = some w → w.pending ≠ some e) → v.acknowledge (.watchEdge k) = none)) ∧
    (∀ k, (∀ target time applied, v.tickets.get k = .granted target time applied →
        v.acknowledge (.claimGranted k) = some { v with tickets := v.tickets.set k .idle }) ∧
      ((∀ target time applied, v.tickets.get k ≠ .granted target time applied) →
        v.acknowledge (.claimGranted k) = none) ∧
      (∀ target time, v.tickets.get k = .expired target time →
        v.acknowledge (.claimExpired k) = some { v with tickets := v.tickets.set k .idle }) ∧
      ((∀ target time, v.tickets.get k ≠ .expired target time) → v.acknowledge (.claimExpired k) = none)) ∧
    (∀ l, let x := v.lineNotices.get l
      let cleared := fun (y : LineNotices) => some { v with lineNotices := v.lineNotices.set l y }
      (∀ time, x.faulted = some time → v.acknowledge (.lineFaulted l) = cleared { x with faulted := none }) ∧
      (x.faulted = none → v.acknowledge (.lineFaulted l) = none) ∧
      (∀ p, x.inherited = some p → v.acknowledge (.lineInherited l) = cleared { x with inherited := none }) ∧
      (x.inherited = none → v.acknowledge (.lineInherited l) = none) ∧
      (∀ time, x.termEnded = some time → v.acknowledge (.termEnded l) = cleared { x with termEnded := none }) ∧
      (x.termEnded = none → v.acknowledge (.termEnded l) = none)) ∧
    (∀ q, let cleared := some { v with outcomes := v.outcomes.set q none }
      (∀ slot step reason time, v.outcomes.get q = some (.halted slot step reason time) →
        v.acknowledge (.seqHalted q) = cleared) ∧
      ((∀ slot step reason time, v.outcomes.get q ≠ some (.halted slot step reason time)) →
        v.acknowledge (.seqHalted q) = none) ∧
      (∀ slot time, v.outcomes.get q = some (.finished slot time) → v.acknowledge (.seqFinished q) = cleared) ∧
      ((∀ slot time, v.outcomes.get q ≠ some (.finished slot time)) → v.acknowledge (.seqFinished q) = none)) ∧
    ∀ n, (∀ p, v.losses.get n = some p →
        v.acknowledge (.agentLost n) = some { v with losses := v.losses.set n none }) ∧
      (v.losses.get n = none → v.acknowledge (.agentLost n) = none))

/-- R131, R132: when a watch's candidate has lasted the filter time it becomes the filtered level; where that edge matches,
the watch is pending, with the count and the stamp of the rule, and the attention output follows. -/
def Obligations.FilterDeadlineTakesTheCandidate : Prop :=
  ∀ (n : Port) (id : WatchId) (v : Live) (w : Watch) (c : Candidate) (s : State), s.live n = some v →
    v.watches.get id = some w → w.view.candidate = some c → c.deadline = s.lineTime →
    let pending := fun (p : Option EdgeRecord) =>
      let x := { w with view := { filtered := c.level, candidate := none }, pending := p }
      let u := { v with watches := v.watches.set id (some x) }
      exec (.filterDeadline n id) s = .next { s with
        sessions := s.sessions.set n { s.session n with live := some u }
        attention := s.attention.set n u.alerts }
    let edge := w.edge = .either ∨ (w.edge = .rise ∧ c.level = true) ∨ (w.edge = .fall ∧ c.level = false)
    (¬ edge → pending w.pending) ∧
    (edge → w.pending = none → pending (some { count := 1, stamp := c.since })) ∧
    (∀ e, edge → w.pending = some e → e.count ≠ 255 → pending (some { e with count := e.count + 1 })) ∧
    (∀ e, edge → w.pending = some e → e.count = 255 → pending (some e))

/-- R145, R146: when an active wake watch's candidate has lasted the filter time it becomes the filtered level; where the
edge matches, the wake output of its target rises. -/
def Obligations.WakeFilterDeadlineRaisesTheOutput : Prop :=
  ∀ (k : Fin 8) (w : WakeWatch) (f : Filter) (c : Candidate) (s : State), s.wakeWatches[k.val]? = some w →
    w.view = some f → f.candidate = some c → c.deadline = s.lineTime →
    let taken := { s with wakeWatches := s.wakeWatches.set k.val
                            { w with view := some { filtered := c.level, candidate := none } } }
    let edge := w.edge = .either ∨ (w.edge = .rise ∧ c.level = true) ∨ (w.edge = .fall ∧ c.level = false)
    (edge → exec (.wakeFilterDeadline k) s = .next { taken with wakeOut := s.wakeOut.set w.target true }) ∧
    (¬ edge → exec (.wakeFilterDeadline k) s = .next taken)

/-! ## Flash requests and their ends (8.7) -/

/-- R95, R160: a flash request that passes the common checks is accepted where no flash operation is in progress: the
operation and its port are recorded, the request slot is IN_PROCESS with the discarded marker, and the response slot is
EMPTY. Where one is, it is refused FLASH_BUSY. -/
def Obligations.FlashRequestIsAcceptedOrBusy : Prop :=
  ∀ (h : Header) (s : State), s.Hears h .exceptStarting .configure →
    let accepted := fun (i : Instr) (length : Nat) (work : FlashWork) =>
      (s.loader.flashOp ≠ none → exec i s = .next ((s.heard h length).answered s h (Reply.bare .flashBusy))) ∧
      (s.loader.flashOp = none → exec i s = .next (({ s.heard h length with
          loader := { s.loader with flashOp := some { work := work, port := h.port, began := s.lineTime } } } : State).setPort h.port
        { (s.heard h length).port h.port with
          request := some { seq := h.seq, discarded := (s.port h.port).response.isSome, ignored := false } }))
    accepted (.profileErase h) 0 .erase ∧ accepted (.profileCommit h) 0 .commit ∧
    (∀ slot offset length work, readArgs slot offset length = some work →
      accepted (.profileRead h slot offset length) 4 work) ∧
    (∀ offset data work, writeArgs offset data = some work →
      accepted (.profileWrite h offset data) (2 + data.length) work)

/-- R147, R161: an erase sets every byte of the spare's sector to FFh and no other byte of the flash; at its end, where
every byte of the spare reads FFh, the outcome is OK and the spare ERASED; else, and at the time-out 400 ms after the erase
command was sent, FLASH_FAILED and DAMAGED. No byte outside the spare changes. What an unsound device leaves in the spare
(log 9) and when the erase command was sent (log 10) are operands of the event, the model's choice. -/
def Obligations.EraseEndsErasedOrDamaged : Prop :=
  ∀ (op : FlashOp) (sent : LineTime) (left : FlashCells) (s : State), s.loader.flashOp = some op → op.work = .erase →
    let base := s.loader.spare.base
    let sound := Memory.eraseSector s.flash base
    let m := Memory.leave sound s.loader.spare (fun _ => true) left
    let cut := Memory.leave s.flash s.loader.spare (fun _ => true) left
    let ended := fun (i : Instr) (m : List Host.Cell) (x : SpareState) (fail : Option (FlashFailure × LineTime)) r =>
      ∃ t, exec i s = .next t ∧
        FlashEnded { s with flash := m, loader := { s.loader with spareState := x, lastFailure := fail } } t op r
    (∀ a, Memory.read sound a = if base ≤ a ∧ a < base + 4096 then 0xFF else Memory.read s.flash a) ∧
    (∀ a, ¬ (base ≤ a ∧ a < base + 4096) →
      Memory.read m a = Memory.read s.flash a ∧ Memory.read cut a = Memory.read s.flash a) ∧
    ended (.eraseEnd []) sound .erased s.loader.lastFailure (Reply.bare .ok) ∧
    ((∀ o, o < 4096 → Memory.read m (base + o) = 0xFF) →
      ended (.eraseEnd left) m .erased s.loader.lastFailure (Reply.bare .ok)) ∧
    ((∃ o, o < 4096 ∧ Memory.read m (base + o) ≠ 0xFF) →
      ended (.eraseEnd left) m .damaged (some (.eraseVerify, s.lineTime))
        (Reply.of .flashFailed (.flashFailed .eraseVerify))) ∧
    ((sent - op.began).toNat < 2147483648 → s.lineTime = sent + 400000 →
      ended (.eraseTimeout ⟨sent, left⟩) cut .damaged (some (.eraseTimeout, s.lineTime))
        (Reply.of .flashFailed (.flashFailed .eraseTimeout))) ∧
    (s.lineTime ≠ sent + 400000 → exec (.eraseTimeout ⟨sent, left⟩) s = .next s)

/-- R147, R162: a write makes each byte that it names the bitwise combination of what it held and what was written; where
they read back as written the outcome is OK and the spare WRITING; else, and at the time-out 5 ms after a page program was
sent, FLASH_FAILED and DAMAGED. No byte outside those written changes. What an unsound device leaves in them (log 9) and
when the page program was sent (log 10) are operands of the event, the model's choice. -/
def Obligations.WriteEndsWritingOrDamaged : Prop :=
  ∀ (op : FlashOp) (offset : Nat) (data : List Byte) (sent : LineTime) (left : FlashCells) (s : State),
    Memory.wf s.flash = true → s.loader.flashOp = some op → op.work = .write offset data →
    let base := s.loader.spare.base + offset
    let touched := fun (o : Nat) => decide (offset ≤ o ∧ o < offset + data.length)
    let cut := Memory.leave s.flash s.loader.spare touched left
    let ended := fun (i : Instr) (m : List Host.Cell) (x : SpareState) (fail : Option (FlashFailure × LineTime)) r =>
      ∃ t, exec i s = .next t ∧
        FlashEnded { s with flash := m, loader := { s.loader with spareState := x, lastFailure := fail } } t op r
    ∃ sound, (∀ a, Memory.read sound a =
        if h : base ≤ a ∧ a - base < data.length then Memory.read s.flash a &&& data[a - base] else Memory.read s.flash a) ∧
      Memory.wf sound = true ∧
      let m := Memory.leave sound s.loader.spare touched left
      (left = [] → m = sound ∧ cut = s.flash) ∧
      (∀ a, ¬ (base ≤ a ∧ a < base + data.length) →
        Memory.read m a = Memory.read s.flash a ∧ Memory.read cut a = Memory.read s.flash a) ∧
      ((∀ i, ∀ h : i < data.length, Memory.read m (base + i) = data[i]) →
        ended (.writeEnd left) m .writing s.loader.lastFailure (Reply.bare .ok)) ∧
      ((∃ i, ∃ h : i < data.length, Memory.read m (base + i) ≠ data[i]) →
        ended (.writeEnd left) m .damaged (some (.programVerify, s.lineTime))
          (Reply.of .flashFailed (.flashFailed .programVerify))) ∧
      ((sent - op.began).toNat < 2147483648 → s.lineTime = sent + 5000 →
        ended (.programTimeout ⟨sent, left⟩) cut .damaged (some (.programTimeout, s.lineTime))
          (Reply.of .flashFailed (.flashFailed .programTimeout))) ∧
      (s.lineTime ≠ sent + 5000 → exec (.programTimeout ⟨sent, left⟩) s = .next s)

/-- R163: a commit whose check fails ends IMAGE_INVALID with the reason, for GENERATION also the generations found and
required, and writes nothing; one that passes with marker 5Ah ends OK; one that passes with another marker has it
programmed, and ends OK where it reads back 5Ah and FLASH_FAILED where it does not, or where the program is still busy 5 ms
after it was sent. What an unsound device leaves (log 9) and when the program was sent (log 10) are operands of the event,
the model's choice. -/
def Obligations.CommitChecksAndMarksTheSpare : Prop :=
  ∀ (op : FlashOp) (sent : LineTime) (left : FlashCells) (s : State), s.loader.flashOp = some op → op.work = .commit →
    let check := checkImage (.commit s.loader.generation) (s.slotByte s.loader.spare)
    let found := s.slotGeneration s.loader.spare
    let ended := fun (i : Instr) (u : State) r => ∃ t, exec i s = .next t ∧ FlashEnded u t op r
    let committed := fun (u : State) => { u with loader := { s.loader with spareState := .committed } }
    let failed := fun (u : State) (f : FlashFailure) =>
      { u with loader := { s.loader with spareState := .damaged, lastFailure := some (f, s.lineTime) } }
    (∀ reason, check = .error reason → reason ≠ .generation →
      ended (.commitEnd left) s (Reply.of .imageInvalid (.imageInvalid reason none))) ∧
    (check = .error .generation → s.loader.generation ≠ 0xFFFFFFFF →
      ended (.commitEnd left) s (Reply.of .imageInvalid
        (.imageInvalid .generation (some (found, s.loader.generation + 1))))) ∧
    (∀ x, check = .ok x → s.slotByte s.loader.spare 5 = 0x5A →
      ended (.commitEnd left) (committed s) (Reply.of .ok (.generation found))) ∧
    (∀ x, check = .ok x → s.slotByte s.loader.spare 5 ≠ 0x5A →
      let m := Memory.leave (Memory.program s.flash (s.loader.spare.base + 5) [0x5A]) s.loader.spare
        (fun o => decide (o = 5)) left
      let u := { s with flash := m }
      (u.slotByte s.loader.spare 5 = 0x5A →
        ended (.commitEnd left) (committed u) (Reply.of .ok (.generation (u.slotGeneration s.loader.spare)))) ∧
      (u.slotByte s.loader.spare 5 ≠ 0x5A →
        ended (.commitEnd left) (failed u .programVerify) (Reply.of .flashFailed (.flashFailed .programVerify))) ∧
      ((sent - op.began).toNat < 2147483648 → s.lineTime = sent + 5000 →
        ended (.programTimeout ⟨sent, left⟩)
          (failed { s with flash := Memory.leave s.flash s.loader.spare (fun o => decide (o = 5)) left } .programTimeout)
          (Reply.of .flashFailed (.flashFailed .programTimeout)))) ∧
    (s.lineTime ≠ sent + 5000 → exec (.programTimeout ⟨sent, left⟩) s = .next s)

/-- R160, R164: a read ends OK with the bytes that the slot holds, and changes neither the spare state nor the last flash
failure; any flash request that finds the flash busy ends FLASH_FAILED with DEVICE_BUSY, the spare state kept. -/
def Obligations.ReadEndsAndBusyFlashFails : Prop :=
  ∀ (op : FlashOp) (s : State), s.loader.flashOp = some op →
    (∀ slot offset length, op.work = .read slot offset length →
      ∃ t bytes, exec .readEnd s = .next t ∧ FlashEnded s t op (Reply.of .ok (.data bytes)) ∧ bytes.length = length ∧
        ∀ i, ∀ h : i < bytes.length, bytes[i] = Memory.read s.flash (slot.base + offset + i)) ∧
    (∃ t, exec .flashStatusBusy s = .next t ∧
      FlashEnded { s with loader := { s.loader with lastFailure := some (.deviceBusy, s.lineTime) } } t op
        (Reply.of .flashFailed (.flashFailed .deviceBusy)))

/-! ## Loads, restart and reset (8.4 to 8.6) -/

/-- R46, R152, R153: with a valid image, the slot of the higher generation (slot A where they are equal) is loaded,
the other is the spare, STALE, and the part is READY with the image's static fields, groups, sequences and rights in
force and each slot's result as read. At the end of the load after a reset every
rule is OCCUPIED, every pinned line is held by the profile, MOVING to its fallback or HELD
where that is FLOAT, and every unpinned one is RELEASING to its fallback with free_reason START. The start-up moves
are made without asking admission, the model's reading (log 20). At the end of a restart's load a pinned line moves from the
drive it kept, the conflict rule floats the unpinned line of each rule that the settled levels match, every other line stays
FREE, and a slot is RESERVED exactly where its rule is still matched (R48, R64, R158); the load's end writes no end
cause: a session that the restart ended holds RESTART, and a record CLOSED before it keeps its own (R108, R158 read so,
log 30). -/
def Obligations.LoadBringsTheImageIntoForce : Prop :=
  (∀ (r : LoadRun) (slot : FlashSlot) (x : Image) (s : State), s.resetLow = false → s.loader.load = some r →
    checkImage .load (s.slotByte slot) = .ok x →
    (∀ y, checkImage .load (s.slotByte slot.other) = .ok y →
      (s.slotGeneration slot.other).toNat < (s.slotGeneration slot).toNat ∨
        (slot = .a ∧ (s.slotGeneration slot.other).toNat = (s.slotGeneration slot).toNat)) →
    ∃ t, exec .loadEnd s = .next t ∧
      t.loader.partState = .ready ∧ t.loader.loaded = some slot ∧ t.loader.generation = s.slotGeneration slot ∧
      t.loader.spare = slot.other ∧ t.loader.spareState = .stale ∧ t.loader.load = none ∧
      t.loader.flashOp = s.loader.flashOp ∧ t.loader.lastFailure = s.loader.lastFailure ∧
      (∀ l, (t.line l).statics = some (x.lines.get l)) ∧ t.groups = x.groups ∧
      t.loader.resultA = s.resultOf .a ∧ t.loader.resultB = s.resultOf .b ∧
      (∀ n, t.session n = { s.session n with
        configure := (x.agents.get n).1, priority := (x.agents.get n).2.1, presenceUsed := (x.agents.get n).2.2 }) ∧
      (∀ q, t.sequence q = (x.sequences.get q).map fun ss => { origin := .profile, steps := ss }) ∧
      (∀ k : RuleSlot, ∀ rule, x.rules[k.val]? = some rule → ∃ st, t.ruleAt k = .rule rule st .fixed) ∧
      (∀ k : RuleSlot, x.rules[k.val]? = none → t.ruleAt k = .empty) ∧
      t.wakeWatches = x.wakes.map (fun w => { w with view := some { filtered := (s.line w.line).observed,
                                                                    candidate := none } }) ∧
      t.lineTime = s.lineTime ∧ t.ports = s.ports ∧ t.flash = s.flash ∧ t.pendingList = s.pendingList ∧
      t.slots = s.slots ∧ t.attention = s.attention ∧ t.presence = s.presence) ∧
  (∀ (r : LoadRun) (slot : FlashSlot) (x : Image) (s : State), s.resetLow = false → s.loader.load = some r →
    r.restart = false → s.selectSlot = some (slot, s.slotGeneration slot, x) →
    (∀ l, (s.line l).drive = .float ∧ (s.line l).state = .free ∧ (s.line l).move = none ∧ (s.line l).fault = .none ∧
      (s.line l).priorDrive = none ∧ (s.line l).term = none ∧ (s.line l).termDue = false ∧
      (s.line l).readback = .off) →
    ∃ t, exec .loadEnd s = .next t ∧ ∀ l,
      let ln : Line := { s.line l with statics := some (x.lines.get l) }
      ((x.lines.get l).pinned = true → t.line l =
        ({ ln with state := .held, holder := .profile, heir := none, freeReason := none } : Line).driven
          (x.lines.get l).fallback s.lineTime) ∧
      ((x.lines.get l).pinned = false → t.line l = ln.released .start (x.lines.get l).fallback s.lineTime) ∧
      ∀ (k : RuleSlot) (rule : Rule), x.rules[k.val]? = some rule → t.ruleAt k = .rule rule .occupied .fixed) ∧
  (∀ (r : LoadRun) (slot : FlashSlot) (x : Image) (s : State), s.resetLow = false → s.loader.load = some r →
    r.restart = true → s.selectSlot = some (slot, s.slotGeneration slot, x) →
    let pinned := fun l => (x.lines.get l).pinned
    ∃ t floated, exec .loadEnd s = .next t ∧
      ConflictPass pinned
        (fun l => if pinned l = true then (x.lines.get l).fallback.levels else (s.line l).drive.levels)
        (x.rules.take 32) [] floated ∧
      (∀ l,
        let ln : Line := { s.line l with statics := some (x.lines.get l) }
        (pinned l = true → t.line l =
          (({ ln with state := .held, holder := .profile, heir := none, freeReason := none } : Line).checkedIn
            s.lineTime).driven (x.lines.get l).fallback s.lineTime) ∧
        (pinned l = false → l ∈ floated → t.line l =
          { ln.moving .release .float s.lineTime with state := .releasing, freeReason := some .restart }) ∧
        (pinned l = false → l ∉ floated → t.line l = ln)) ∧
      ∀ (k : RuleSlot) (rule : Rule), x.rules[k.val]? = some rule →
        t.ruleAt k = .rule rule (if rule.matchedBy t.assertion then .reserved else .occupied) .fixed)

/-- R152, R154: a load that ends with no valid slot, or at the status time-out, leaves the part DEGRADED: no rule, group,
sequence or wake watch, CONFIGURE alone on every port, the static fields and epochs as they were. After a reset no line
moves; after a restart every line not in FLOAT is moved there with free_reason RESTART (R22, R48). That no group stays in
force is the model's reading (log 16); the load's end writes no end cause, so a record CLOSED before the restart keeps
its own (R108, R158 read so, log 30). -/
def Obligations.LoadWithoutAnImageDegrades : Prop :=
  ∀ (r : LoadRun) (s : State), s.resetLow = false → s.loader.load = some r → s.Coherent →
    let degraded := fun (a b : SlotResult) (t : State) =>
      t.loader = { s.loader with partState := .degraded, loaded := none, generation := 0, spare := .a,
                                 spareState := .stale, load := none, resultA := a, resultB := b } ∧
      (∀ k, t.ruleAt k = .empty) ∧ (∀ g, t.groups.get g = none) ∧ (∀ q, t.sequence q = none) ∧ t.wakeWatches = [] ∧
      (∀ n, t.session n = { s.session n with configure := true, priority := false, presenceUsed := false }) ∧
      (r.restart = false → t.lines = s.lines) ∧
      (r.restart = true → ∀ l,
        ((s.line l).drive = .float → t.line l = s.line l) ∧
        ((s.line l).drive ≠ .float → t.line l =
          { (s.line l).moving .release .float s.lineTime with state := .releasing, freeReason := some .restart })) ∧
      t.lineTime = s.lineTime ∧ t.ports = s.ports ∧ t.flash = s.flash ∧ t.pendingList = s.pendingList ∧
      t.attention = s.attention ∧ t.wakeOut = s.wakeOut
    (∀ ea eb, checkImage .load (s.slotByte .a) = .error ea → checkImage .load (s.slotByte .b) = .error eb →
      ∃ t, exec .loadEnd s = .next t ∧
        degraded (.invalid ea (s.slotGeneration .a)) (.invalid eb (s.slotGeneration .b)) t) ∧
    (s.lineTime = r.began + 400000 →
      ∃ t, exec .loadStatusTimeout s = .next t ∧ degraded .notRead .notRead t)

/-- R47, R63, R89, R108, R109, R125, R143, R157: RESTART is refused FLASH_BUSY while a flash operation is in progress;
otherwise every session ends with cause RESTART, every line is FREE at the drive of the stage reached, the pending list,
the runs, the runtime rules and sequences, the wake watches and the outputs are cleared, and a load begins. -/
def Obligations.RestartFreesEveryLineAndLoads : Prop :=
  ∀ (h : Header) (s : State), s.Hears h .exceptStarting .configure →
    (s.loader.flashOp ≠ none → exec (.restart h) s = .next ((s.heard h 0).answered s h (Reply.bare .flashBusy))) ∧
    (s.loader.flashOp = none → ∃ t : State,
      exec (.restart h) s = .next (t.answered s h (Reply.of .ok (.lineTime s.lineTime))) ∧
      (∀ l, t.line l = { s.line l with
        state := .free, holder := .none, move := none, heir := none, term := none, termDue := false, fault := .none,
        priorDrive := none, binding := none, freeReason := some .restart, readback := .off }) ∧
      (∀ n, t.session n = if s.isOpen n then { s.session n with lastEnd := .restart, live := none } else s.session n) ∧
      (∀ k r st, s.ruleAt k = .rule r st .fixed → ∃ st', t.ruleAt k = .rule r st' .fixed) ∧
      (∀ k, (∀ r st, s.ruleAt k ≠ .rule r st .fixed) → t.ruleAt k = .empty) ∧
      (∀ q, t.sequence q = match s.sequence q with
        | some x => if x.origin = .profile then some x else none
        | none => none) ∧
      t.pendingList = [] ∧ (∀ k, t.run k = none) ∧ t.wakeWatches = [] ∧ (∀ n, t.wakeOut.get n = false) ∧
      (∀ n, t.attention.get n = false) ∧
      t.loader = { s.loader with partState := .starting, load := some { began := s.lineTime, restart := true } } ∧
      t.groups = s.groups ∧ t.flash = s.flash ∧ t.ports = (s.taken h 0).ports ∧ t.lineTime = s.lineTime ∧
      t.presence = s.presence)

/-- R20, R45, R49, R88, R90, R128, R141, R146, R151, R156, R168: at the fall of the reset pin, and again at its
release, every block takes its reset values; at the release line time is 0, every pad is sensed, and a load begins.
What the board drives (the pads' levels while low, the presence inputs) and the flash stay, but for the bytes that an
abandoned program or erase leaves: an erase any of the spare's, a write those it names, a commit the marker, a read none.
What the device leaves in them is an operand of the event, the model's choice (log 9). -/
def Obligations.ResetPinResetsEveryBlock : Prop :=
  ∀ (levels : BitVec 48) (left : FlashCells) (s : State),
    let low := fun (t : State) =>
      t.lineTime = 0 ∧ t.pendingList = [] ∧ t.wakeWatches = [] ∧ (∀ k, t.ruleAt k = .empty) ∧
      (∀ g, t.groups.get g = none) ∧ (∀ n, t.session n = resetSession) ∧ (∀ q, t.sequence q = none) ∧
      (∀ k, t.run k = none) ∧ (∀ n, t.wakeOut.get n = false) ∧ (∀ n, t.attention.get n = false) ∧
      (∀ n, t.port n = resetPort) ∧ t.presence = s.presence ∧ t.pending = s.pending ∧ t.choices = s.choices ∧
      (s.loader.flashOp = none → t.flash = s.flash) ∧
      (∀ op, s.loader.flashOp = some op →
        t.flash = Memory.leave s.flash s.loader.spare op.work.touches left ∧
        ∀ a, (∀ o, o < 4096 → op.work.Reaches o → a ≠ s.loader.spare.base + o) →
          Memory.read t.flash a = Memory.read s.flash a)
    (∃ t, exec (.resetLow left) s = .next t ∧ low t ∧ t.resetLow = true ∧ t.loader = resetLoader none ∧
      ∀ l, t.line l = resetLine (s.line l).observed) ∧
    (∃ t, exec (.resetRelease levels left) s = .next t ∧ low t ∧ t.resetLow = false ∧
      t.loader = resetLoader (some { began := 0, restart := false }) ∧
      ∀ l, t.line l = resetLine (levels.getLsbD l.val))

/-! ## What commands leave alone -/

/-- The frame of the requests: none changes line time, the reset pin, the flash, the queue, another port's record or another
session's epoch, settings and openness; all but RESTART and the flash requests keep the Loader's record; all but
STORE_SEQUENCE, DROP_SEQUENCE and RESTART keep the sequence store; all but ADD_INTERLOCK, DROP_INTERLOCK and RESTART keep
every rule, its slot and its origin; all but OPEN keep the presence inputs; groups stay under all. The frame of the events
of lines and timers: none changes the groups, the store, the Loader's record, the flash, the ports, the presence inputs,
line time, a session's epoch or settings, the rules or the queue. -/
def Obligations.CommandsLeaveTheRest : Prop :=
  (∀ (i : Instr) (c : Checks) (s t : State), requestChecks i = some c → exec i s = .next t →
    t.lineTime = s.lineTime ∧ t.resetLow = s.resetLow ∧ t.flash = s.flash ∧ t.choices = s.choices ∧
    t.pending = s.pending ∧ t.groups = s.groups ∧ (∀ n, n ≠ c.header.port → t.port n = s.port n) ∧
    ((∀ h, i ≠ .restart h) → ∀ n, n ≠ c.header.port →
      { t.session n with live := none } = { s.session n with live := none } ∧ t.isOpen n = s.isOpen n) ∧
    ((∀ h, i ≠ .restart h ∧ i ≠ .profileErase h ∧ i ≠ .profileCommit h) →
      (∀ h f o n, i ≠ .profileRead h f o n) → (∀ h o d, i ≠ .profileWrite h o d) → t.loader = s.loader) ∧
    ((∀ h, i ≠ .restart h) → (∀ h q ss, i ≠ .storeSequence h q ss) → (∀ h q, i ≠ .dropSequence h q) →
      t.store = s.store) ∧
    ((∀ h, i ≠ .restart h) → (∀ h x a y b, i ≠ .addInterlock h x a y b) → (∀ h k, i ≠ .dropInterlock h k) →
      ∀ k, (s.ruleAt k = .empty ↔ t.ruleAt k = .empty) ∧
        ∀ r st o, s.ruleAt k = .rule r st o → ∃ st', t.ruleAt k = .rule r st' o) ∧
    ((∀ h p m a v, i ≠ .openSession h p m a v) → t.presence = s.presence)) ∧
  (∀ (i : Instr) (s t : State), exec i s = .next t →
    ((∃ l v, i = .observedLevelChange l v) ∨ (∃ l, i = .stageEnd l ∨ i = .readbackDeadline l ∨ i = .termDeadline l) ∨
      (∃ n k, i = .patienceDeadline n k) ∨ (∃ n, i = .periodDeadline n) ∨ (∃ k, i = .holdDeadline k) ∨
      (∃ n k, i = .filterDeadline n k) ∨ (∃ k, i = .wakeFilterDeadline k)) →
    t.lineTime = s.lineTime ∧ t.resetLow = s.resetLow ∧ t.flash = s.flash ∧ t.choices = s.choices ∧
    t.pending = s.pending ∧ t.groups = s.groups ∧ t.store = s.store ∧ t.presence = s.presence ∧ t.loader = s.loader ∧
    t.ports = s.ports ∧
    (∀ n, (t.session n).epoch = (s.session n).epoch ∧ (t.session n).configure = (s.session n).configure ∧
      (t.session n).priority = (s.session n).priority ∧ (t.session n).presenceUsed = (s.session n).presenceUsed) ∧
    ∀ k, (s.ruleAt k = .empty ↔ t.ruleAt k = .empty) ∧
      ∀ r st o, s.ruleAt k = .rule r st o → ∃ st', t.ruleAt k = .rule r st' o)

/-! ## Laws that every step keeps -/

/-- R23, R24, R113: every step keeps the relations of the line records and the bindings of runs. -/
def Obligations.EveryStepKeepsTheRecordsCoherent : Prop :=
  ∀ s t : State, s.Coherent → step s = .next t → t.Coherent

/-- R38, R87: every step keeps it that an agent that holds a line, or waits for one, has an OPEN session. -/
def Obligations.EveryStepKeepsHoldersOpen : Prop :=
  ∀ s t : State, s.HoldersOpen → step s = .next t → t.HoldersOpen

/-- R51: every step keeps it that no interlock rule in the table is matched by the assertion set. -/
def Obligations.NoStepMatchesAnInterlockRule : Prop :=
  ∀ s t : State, s.Coherent → s.StartFloating → s.RulesHold → step s = .next t → t.StartFloating ∧ t.RulesHold

/-- R142: every step leaves each attention output asserted exactly when its session is OPEN and some pending notice passes
its mask. R143, R144, R146, R155: every step keeps it that wake output n is asserted only while port n has no open session, that a
wake watch is active exactly then, and that no session is open in STARTING. -/
def Obligations.EveryStepKeepsAttentionExact : Prop :=
  (∀ s t : State, s.AttentionSound → step s = .next t → t.AttentionSound) ∧
  ∀ s t : State, s.WakesSound → step s = .next t → t.WakesSound

/-- R147, R160, R168: every step keeps the flash bytes in canonical form and inside the two slots, and a request slot
IN_PROCESS only while that port's flash request is in process, its response slot then EMPTY. -/
def Obligations.EveryStepKeepsFlashAndPortsSound : Prop :=
  ∀ s t : State, s.FlashSound → s.PortsSound → step s = .next t → t.FlashSound ∧ t.PortsSound
end

