-- ==== Sys2Proof/Laws/State.lean ====
section
/-! SUPPORT. What each update of State leaves as it is, one lemma per update and field, true by rfl; and what each table
reads after its own update. -/

namespace Sys2Proof.Machine

/-! ### setLine -/

@[simp] theorem State.setLine_lineTime (s : State) (l : LineId) (x : Line) : (s.setLine l x).lineTime = s.lineTime := rfl
@[simp] theorem State.setLine_resetLow (s : State) (l : LineId) (x : Line) : (s.setLine l x).resetLow = s.resetLow := rfl
@[simp] theorem State.setLine_interlocks (s : State) (l : LineId) (x : Line) : (s.setLine l x).interlocks = s.interlocks := rfl
@[simp] theorem State.setLine_groups (s : State) (l : LineId) (x : Line) : (s.setLine l x).groups = s.groups := rfl
@[simp] theorem State.setLine_pendingList (s : State) (l : LineId) (x : Line) : (s.setLine l x).pendingList = s.pendingList := rfl
@[simp] theorem State.setLine_sessions (s : State) (l : LineId) (x : Line) : (s.setLine l x).sessions = s.sessions := rfl
@[simp] theorem State.setLine_store (s : State) (l : LineId) (x : Line) : (s.setLine l x).store = s.store := rfl
@[simp] theorem State.setLine_slots (s : State) (l : LineId) (x : Line) : (s.setLine l x).slots = s.slots := rfl
@[simp] theorem State.setLine_wakeWatches (s : State) (l : LineId) (x : Line) : (s.setLine l x).wakeWatches = s.wakeWatches := rfl
@[simp] theorem State.setLine_wakeOut (s : State) (l : LineId) (x : Line) : (s.setLine l x).wakeOut = s.wakeOut := rfl
@[simp] theorem State.setLine_attention (s : State) (l : LineId) (x : Line) : (s.setLine l x).attention = s.attention := rfl
@[simp] theorem State.setLine_presence (s : State) (l : LineId) (x : Line) : (s.setLine l x).presence = s.presence := rfl
@[simp] theorem State.setLine_loader (s : State) (l : LineId) (x : Line) : (s.setLine l x).loader = s.loader := rfl
@[simp] theorem State.setLine_ports (s : State) (l : LineId) (x : Line) : (s.setLine l x).ports = s.ports := rfl
@[simp] theorem State.setLine_flash (s : State) (l : LineId) (x : Line) : (s.setLine l x).flash = s.flash := rfl
@[simp] theorem State.setLine_choices (s : State) (l : LineId) (x : Line) : (s.setLine l x).choices = s.choices := rfl
@[simp] theorem State.setLine_pending (s : State) (l : LineId) (x : Line) : (s.setLine l x).pending = s.pending := rfl

/-! ### modifyLine -/

@[simp] theorem State.modifyLine_lineTime (s : State) (l : LineId) (f : Line → Line) : (s.modifyLine l f).lineTime = s.lineTime := rfl
@[simp] theorem State.modifyLine_resetLow (s : State) (l : LineId) (f : Line → Line) : (s.modifyLine l f).resetLow = s.resetLow := rfl
@[simp] theorem State.modifyLine_interlocks (s : State) (l : LineId) (f : Line → Line) : (s.modifyLine l f).interlocks = s.interlocks := rfl
@[simp] theorem State.modifyLine_groups (s : State) (l : LineId) (f : Line → Line) : (s.modifyLine l f).groups = s.groups := rfl
@[simp] theorem State.modifyLine_pendingList (s : State) (l : LineId) (f : Line → Line) : (s.modifyLine l f).pendingList = s.pendingList := rfl
@[simp] theorem State.modifyLine_sessions (s : State) (l : LineId) (f : Line → Line) : (s.modifyLine l f).sessions = s.sessions := rfl
@[simp] theorem State.modifyLine_store (s : State) (l : LineId) (f : Line → Line) : (s.modifyLine l f).store = s.store := rfl
@[simp] theorem State.modifyLine_slots (s : State) (l : LineId) (f : Line → Line) : (s.modifyLine l f).slots = s.slots := rfl
@[simp] theorem State.modifyLine_wakeWatches (s : State) (l : LineId) (f : Line → Line) : (s.modifyLine l f).wakeWatches = s.wakeWatches := rfl
@[simp] theorem State.modifyLine_wakeOut (s : State) (l : LineId) (f : Line → Line) : (s.modifyLine l f).wakeOut = s.wakeOut := rfl
@[simp] theorem State.modifyLine_attention (s : State) (l : LineId) (f : Line → Line) : (s.modifyLine l f).attention = s.attention := rfl
@[simp] theorem State.modifyLine_presence (s : State) (l : LineId) (f : Line → Line) : (s.modifyLine l f).presence = s.presence := rfl
@[simp] theorem State.modifyLine_loader (s : State) (l : LineId) (f : Line → Line) : (s.modifyLine l f).loader = s.loader := rfl
@[simp] theorem State.modifyLine_ports (s : State) (l : LineId) (f : Line → Line) : (s.modifyLine l f).ports = s.ports := rfl
@[simp] theorem State.modifyLine_flash (s : State) (l : LineId) (f : Line → Line) : (s.modifyLine l f).flash = s.flash := rfl
@[simp] theorem State.modifyLine_choices (s : State) (l : LineId) (f : Line → Line) : (s.modifyLine l f).choices = s.choices := rfl
@[simp] theorem State.modifyLine_pending (s : State) (l : LineId) (f : Line → Line) : (s.modifyLine l f).pending = s.pending := rfl

/-! ### setRule -/

@[simp] theorem State.setRule_lineTime (s : State) (k : RuleSlot) (x : InterlockSlot) : (s.setRule k x).lineTime = s.lineTime := rfl
@[simp] theorem State.setRule_resetLow (s : State) (k : RuleSlot) (x : InterlockSlot) : (s.setRule k x).resetLow = s.resetLow := rfl
@[simp] theorem State.setRule_lines (s : State) (k : RuleSlot) (x : InterlockSlot) : (s.setRule k x).lines = s.lines := rfl
@[simp] theorem State.setRule_groups (s : State) (k : RuleSlot) (x : InterlockSlot) : (s.setRule k x).groups = s.groups := rfl
@[simp] theorem State.setRule_pendingList (s : State) (k : RuleSlot) (x : InterlockSlot) : (s.setRule k x).pendingList = s.pendingList := rfl
@[simp] theorem State.setRule_sessions (s : State) (k : RuleSlot) (x : InterlockSlot) : (s.setRule k x).sessions = s.sessions := rfl
@[simp] theorem State.setRule_store (s : State) (k : RuleSlot) (x : InterlockSlot) : (s.setRule k x).store = s.store := rfl
@[simp] theorem State.setRule_slots (s : State) (k : RuleSlot) (x : InterlockSlot) : (s.setRule k x).slots = s.slots := rfl
@[simp] theorem State.setRule_wakeWatches (s : State) (k : RuleSlot) (x : InterlockSlot) : (s.setRule k x).wakeWatches = s.wakeWatches := rfl
@[simp] theorem State.setRule_wakeOut (s : State) (k : RuleSlot) (x : InterlockSlot) : (s.setRule k x).wakeOut = s.wakeOut := rfl
@[simp] theorem State.setRule_attention (s : State) (k : RuleSlot) (x : InterlockSlot) : (s.setRule k x).attention = s.attention := rfl
@[simp] theorem State.setRule_presence (s : State) (k : RuleSlot) (x : InterlockSlot) : (s.setRule k x).presence = s.presence := rfl
@[simp] theorem State.setRule_loader (s : State) (k : RuleSlot) (x : InterlockSlot) : (s.setRule k x).loader = s.loader := rfl
@[simp] theorem State.setRule_ports (s : State) (k : RuleSlot) (x : InterlockSlot) : (s.setRule k x).ports = s.ports := rfl
@[simp] theorem State.setRule_flash (s : State) (k : RuleSlot) (x : InterlockSlot) : (s.setRule k x).flash = s.flash := rfl
@[simp] theorem State.setRule_choices (s : State) (k : RuleSlot) (x : InterlockSlot) : (s.setRule k x).choices = s.choices := rfl
@[simp] theorem State.setRule_pending (s : State) (k : RuleSlot) (x : InterlockSlot) : (s.setRule k x).pending = s.pending := rfl

/-! ### settleReserved -/

@[simp] theorem State.settleReserved_lineTime (s : State) : (s.settleReserved).lineTime = s.lineTime := by unfold State.settleReserved; rfl
@[simp] theorem State.settleReserved_resetLow (s : State) : (s.settleReserved).resetLow = s.resetLow := by unfold State.settleReserved; rfl
@[simp] theorem State.settleReserved_lines (s : State) : (s.settleReserved).lines = s.lines := by unfold State.settleReserved; rfl
@[simp] theorem State.settleReserved_groups (s : State) : (s.settleReserved).groups = s.groups := by unfold State.settleReserved; rfl
@[simp] theorem State.settleReserved_pendingList (s : State) : (s.settleReserved).pendingList = s.pendingList := by unfold State.settleReserved; rfl
@[simp] theorem State.settleReserved_sessions (s : State) : (s.settleReserved).sessions = s.sessions := by unfold State.settleReserved; rfl
@[simp] theorem State.settleReserved_store (s : State) : (s.settleReserved).store = s.store := by unfold State.settleReserved; rfl
@[simp] theorem State.settleReserved_slots (s : State) : (s.settleReserved).slots = s.slots := by unfold State.settleReserved; rfl
@[simp] theorem State.settleReserved_wakeWatches (s : State) : (s.settleReserved).wakeWatches = s.wakeWatches := by unfold State.settleReserved; rfl
@[simp] theorem State.settleReserved_wakeOut (s : State) : (s.settleReserved).wakeOut = s.wakeOut := by unfold State.settleReserved; rfl
@[simp] theorem State.settleReserved_attention (s : State) : (s.settleReserved).attention = s.attention := by unfold State.settleReserved; rfl
@[simp] theorem State.settleReserved_presence (s : State) : (s.settleReserved).presence = s.presence := by unfold State.settleReserved; rfl
@[simp] theorem State.settleReserved_loader (s : State) : (s.settleReserved).loader = s.loader := by unfold State.settleReserved; rfl
@[simp] theorem State.settleReserved_ports (s : State) : (s.settleReserved).ports = s.ports := by unfold State.settleReserved; rfl
@[simp] theorem State.settleReserved_flash (s : State) : (s.settleReserved).flash = s.flash := by unfold State.settleReserved; rfl
@[simp] theorem State.settleReserved_choices (s : State) : (s.settleReserved).choices = s.choices := by unfold State.settleReserved; rfl
@[simp] theorem State.settleReserved_pending (s : State) : (s.settleReserved).pending = s.pending := by unfold State.settleReserved; rfl

/-! ### setSession -/

@[simp] theorem State.setSession_lineTime (s : State) (n : Port) (x : Session) : (s.setSession n x).lineTime = s.lineTime := rfl
@[simp] theorem State.setSession_resetLow (s : State) (n : Port) (x : Session) : (s.setSession n x).resetLow = s.resetLow := rfl
@[simp] theorem State.setSession_lines (s : State) (n : Port) (x : Session) : (s.setSession n x).lines = s.lines := rfl
@[simp] theorem State.setSession_interlocks (s : State) (n : Port) (x : Session) : (s.setSession n x).interlocks = s.interlocks := rfl
@[simp] theorem State.setSession_groups (s : State) (n : Port) (x : Session) : (s.setSession n x).groups = s.groups := rfl
@[simp] theorem State.setSession_pendingList (s : State) (n : Port) (x : Session) : (s.setSession n x).pendingList = s.pendingList := rfl
@[simp] theorem State.setSession_store (s : State) (n : Port) (x : Session) : (s.setSession n x).store = s.store := rfl
@[simp] theorem State.setSession_slots (s : State) (n : Port) (x : Session) : (s.setSession n x).slots = s.slots := rfl
@[simp] theorem State.setSession_wakeWatches (s : State) (n : Port) (x : Session) : (s.setSession n x).wakeWatches = s.wakeWatches := rfl
@[simp] theorem State.setSession_wakeOut (s : State) (n : Port) (x : Session) : (s.setSession n x).wakeOut = s.wakeOut := rfl
@[simp] theorem State.setSession_attention (s : State) (n : Port) (x : Session) : (s.setSession n x).attention = s.attention := rfl
@[simp] theorem State.setSession_presence (s : State) (n : Port) (x : Session) : (s.setSession n x).presence = s.presence := rfl
@[simp] theorem State.setSession_loader (s : State) (n : Port) (x : Session) : (s.setSession n x).loader = s.loader := rfl
@[simp] theorem State.setSession_ports (s : State) (n : Port) (x : Session) : (s.setSession n x).ports = s.ports := rfl
@[simp] theorem State.setSession_flash (s : State) (n : Port) (x : Session) : (s.setSession n x).flash = s.flash := rfl
@[simp] theorem State.setSession_choices (s : State) (n : Port) (x : Session) : (s.setSession n x).choices = s.choices := rfl
@[simp] theorem State.setSession_pending (s : State) (n : Port) (x : Session) : (s.setSession n x).pending = s.pending := rfl

/-! ### modifyLive -/

@[simp] theorem State.modifyLive_lineTime (s : State) (n : Port) (f : Live → Live) : (s.modifyLive n f).lineTime = s.lineTime := rfl
@[simp] theorem State.modifyLive_resetLow (s : State) (n : Port) (f : Live → Live) : (s.modifyLive n f).resetLow = s.resetLow := rfl
@[simp] theorem State.modifyLive_lines (s : State) (n : Port) (f : Live → Live) : (s.modifyLive n f).lines = s.lines := rfl
@[simp] theorem State.modifyLive_interlocks (s : State) (n : Port) (f : Live → Live) : (s.modifyLive n f).interlocks = s.interlocks := rfl
@[simp] theorem State.modifyLive_groups (s : State) (n : Port) (f : Live → Live) : (s.modifyLive n f).groups = s.groups := rfl
@[simp] theorem State.modifyLive_pendingList (s : State) (n : Port) (f : Live → Live) : (s.modifyLive n f).pendingList = s.pendingList := rfl
@[simp] theorem State.modifyLive_store (s : State) (n : Port) (f : Live → Live) : (s.modifyLive n f).store = s.store := rfl
@[simp] theorem State.modifyLive_slots (s : State) (n : Port) (f : Live → Live) : (s.modifyLive n f).slots = s.slots := rfl
@[simp] theorem State.modifyLive_wakeWatches (s : State) (n : Port) (f : Live → Live) : (s.modifyLive n f).wakeWatches = s.wakeWatches := rfl
@[simp] theorem State.modifyLive_wakeOut (s : State) (n : Port) (f : Live → Live) : (s.modifyLive n f).wakeOut = s.wakeOut := rfl
@[simp] theorem State.modifyLive_attention (s : State) (n : Port) (f : Live → Live) : (s.modifyLive n f).attention = s.attention := rfl
@[simp] theorem State.modifyLive_presence (s : State) (n : Port) (f : Live → Live) : (s.modifyLive n f).presence = s.presence := rfl
@[simp] theorem State.modifyLive_loader (s : State) (n : Port) (f : Live → Live) : (s.modifyLive n f).loader = s.loader := rfl
@[simp] theorem State.modifyLive_ports (s : State) (n : Port) (f : Live → Live) : (s.modifyLive n f).ports = s.ports := rfl
@[simp] theorem State.modifyLive_flash (s : State) (n : Port) (f : Live → Live) : (s.modifyLive n f).flash = s.flash := rfl
@[simp] theorem State.modifyLive_choices (s : State) (n : Port) (f : Live → Live) : (s.modifyLive n f).choices = s.choices := rfl
@[simp] theorem State.modifyLive_pending (s : State) (n : Port) (f : Live → Live) : (s.modifyLive n f).pending = s.pending := rfl

/-! ### setRun -/

@[simp] theorem State.setRun_lineTime (s : State) (k : SlotId) (r : Option Run) : (s.setRun k r).lineTime = s.lineTime := rfl
@[simp] theorem State.setRun_resetLow (s : State) (k : SlotId) (r : Option Run) : (s.setRun k r).resetLow = s.resetLow := rfl
@[simp] theorem State.setRun_lines (s : State) (k : SlotId) (r : Option Run) : (s.setRun k r).lines = s.lines := rfl
@[simp] theorem State.setRun_interlocks (s : State) (k : SlotId) (r : Option Run) : (s.setRun k r).interlocks = s.interlocks := rfl
@[simp] theorem State.setRun_groups (s : State) (k : SlotId) (r : Option Run) : (s.setRun k r).groups = s.groups := rfl
@[simp] theorem State.setRun_pendingList (s : State) (k : SlotId) (r : Option Run) : (s.setRun k r).pendingList = s.pendingList := rfl
@[simp] theorem State.setRun_sessions (s : State) (k : SlotId) (r : Option Run) : (s.setRun k r).sessions = s.sessions := rfl
@[simp] theorem State.setRun_store (s : State) (k : SlotId) (r : Option Run) : (s.setRun k r).store = s.store := rfl
@[simp] theorem State.setRun_wakeWatches (s : State) (k : SlotId) (r : Option Run) : (s.setRun k r).wakeWatches = s.wakeWatches := rfl
@[simp] theorem State.setRun_wakeOut (s : State) (k : SlotId) (r : Option Run) : (s.setRun k r).wakeOut = s.wakeOut := rfl
@[simp] theorem State.setRun_attention (s : State) (k : SlotId) (r : Option Run) : (s.setRun k r).attention = s.attention := rfl
@[simp] theorem State.setRun_presence (s : State) (k : SlotId) (r : Option Run) : (s.setRun k r).presence = s.presence := rfl
@[simp] theorem State.setRun_loader (s : State) (k : SlotId) (r : Option Run) : (s.setRun k r).loader = s.loader := rfl
@[simp] theorem State.setRun_ports (s : State) (k : SlotId) (r : Option Run) : (s.setRun k r).ports = s.ports := rfl
@[simp] theorem State.setRun_flash (s : State) (k : SlotId) (r : Option Run) : (s.setRun k r).flash = s.flash := rfl
@[simp] theorem State.setRun_choices (s : State) (k : SlotId) (r : Option Run) : (s.setRun k r).choices = s.choices := rfl
@[simp] theorem State.setRun_pending (s : State) (k : SlotId) (r : Option Run) : (s.setRun k r).pending = s.pending := rfl

/-! ### modifyRun -/

@[simp] theorem State.modifyRun_lineTime (s : State) (k : SlotId) (f : Run → Run) : (s.modifyRun k f).lineTime = s.lineTime := rfl
@[simp] theorem State.modifyRun_resetLow (s : State) (k : SlotId) (f : Run → Run) : (s.modifyRun k f).resetLow = s.resetLow := rfl
@[simp] theorem State.modifyRun_lines (s : State) (k : SlotId) (f : Run → Run) : (s.modifyRun k f).lines = s.lines := rfl
@[simp] theorem State.modifyRun_interlocks (s : State) (k : SlotId) (f : Run → Run) : (s.modifyRun k f).interlocks = s.interlocks := rfl
@[simp] theorem State.modifyRun_groups (s : State) (k : SlotId) (f : Run → Run) : (s.modifyRun k f).groups = s.groups := rfl
@[simp] theorem State.modifyRun_pendingList (s : State) (k : SlotId) (f : Run → Run) : (s.modifyRun k f).pendingList = s.pendingList := rfl
@[simp] theorem State.modifyRun_sessions (s : State) (k : SlotId) (f : Run → Run) : (s.modifyRun k f).sessions = s.sessions := rfl
@[simp] theorem State.modifyRun_store (s : State) (k : SlotId) (f : Run → Run) : (s.modifyRun k f).store = s.store := rfl
@[simp] theorem State.modifyRun_wakeWatches (s : State) (k : SlotId) (f : Run → Run) : (s.modifyRun k f).wakeWatches = s.wakeWatches := rfl
@[simp] theorem State.modifyRun_wakeOut (s : State) (k : SlotId) (f : Run → Run) : (s.modifyRun k f).wakeOut = s.wakeOut := rfl
@[simp] theorem State.modifyRun_attention (s : State) (k : SlotId) (f : Run → Run) : (s.modifyRun k f).attention = s.attention := rfl
@[simp] theorem State.modifyRun_presence (s : State) (k : SlotId) (f : Run → Run) : (s.modifyRun k f).presence = s.presence := rfl
@[simp] theorem State.modifyRun_loader (s : State) (k : SlotId) (f : Run → Run) : (s.modifyRun k f).loader = s.loader := rfl
@[simp] theorem State.modifyRun_ports (s : State) (k : SlotId) (f : Run → Run) : (s.modifyRun k f).ports = s.ports := rfl
@[simp] theorem State.modifyRun_flash (s : State) (k : SlotId) (f : Run → Run) : (s.modifyRun k f).flash = s.flash := rfl
@[simp] theorem State.modifyRun_choices (s : State) (k : SlotId) (f : Run → Run) : (s.modifyRun k f).choices = s.choices := rfl
@[simp] theorem State.modifyRun_pending (s : State) (k : SlotId) (f : Run → Run) : (s.modifyRun k f).pending = s.pending := rfl

/-! ### setPhase -/

@[simp] theorem State.setPhase_lineTime (s : State) (k : SlotId) (p : RunPhase) : (s.setPhase k p).lineTime = s.lineTime := rfl
@[simp] theorem State.setPhase_resetLow (s : State) (k : SlotId) (p : RunPhase) : (s.setPhase k p).resetLow = s.resetLow := rfl
@[simp] theorem State.setPhase_lines (s : State) (k : SlotId) (p : RunPhase) : (s.setPhase k p).lines = s.lines := rfl
@[simp] theorem State.setPhase_interlocks (s : State) (k : SlotId) (p : RunPhase) : (s.setPhase k p).interlocks = s.interlocks := rfl
@[simp] theorem State.setPhase_groups (s : State) (k : SlotId) (p : RunPhase) : (s.setPhase k p).groups = s.groups := rfl
@[simp] theorem State.setPhase_pendingList (s : State) (k : SlotId) (p : RunPhase) : (s.setPhase k p).pendingList = s.pendingList := rfl
@[simp] theorem State.setPhase_sessions (s : State) (k : SlotId) (p : RunPhase) : (s.setPhase k p).sessions = s.sessions := rfl
@[simp] theorem State.setPhase_store (s : State) (k : SlotId) (p : RunPhase) : (s.setPhase k p).store = s.store := rfl
@[simp] theorem State.setPhase_wakeWatches (s : State) (k : SlotId) (p : RunPhase) : (s.setPhase k p).wakeWatches = s.wakeWatches := rfl
@[simp] theorem State.setPhase_wakeOut (s : State) (k : SlotId) (p : RunPhase) : (s.setPhase k p).wakeOut = s.wakeOut := rfl
@[simp] theorem State.setPhase_attention (s : State) (k : SlotId) (p : RunPhase) : (s.setPhase k p).attention = s.attention := rfl
@[simp] theorem State.setPhase_presence (s : State) (k : SlotId) (p : RunPhase) : (s.setPhase k p).presence = s.presence := rfl
@[simp] theorem State.setPhase_loader (s : State) (k : SlotId) (p : RunPhase) : (s.setPhase k p).loader = s.loader := rfl
@[simp] theorem State.setPhase_ports (s : State) (k : SlotId) (p : RunPhase) : (s.setPhase k p).ports = s.ports := rfl
@[simp] theorem State.setPhase_flash (s : State) (k : SlotId) (p : RunPhase) : (s.setPhase k p).flash = s.flash := rfl
@[simp] theorem State.setPhase_choices (s : State) (k : SlotId) (p : RunPhase) : (s.setPhase k p).choices = s.choices := rfl
@[simp] theorem State.setPhase_pending (s : State) (k : SlotId) (p : RunPhase) : (s.setPhase k p).pending = s.pending := rfl

/-! ### setSequence -/

@[simp] theorem State.setSequence_lineTime (s : State) (q : SeqNumber) (x : Option Sequence) : (s.setSequence q x).lineTime = s.lineTime := rfl
@[simp] theorem State.setSequence_resetLow (s : State) (q : SeqNumber) (x : Option Sequence) : (s.setSequence q x).resetLow = s.resetLow := rfl
@[simp] theorem State.setSequence_lines (s : State) (q : SeqNumber) (x : Option Sequence) : (s.setSequence q x).lines = s.lines := rfl
@[simp] theorem State.setSequence_interlocks (s : State) (q : SeqNumber) (x : Option Sequence) : (s.setSequence q x).interlocks = s.interlocks := rfl
@[simp] theorem State.setSequence_groups (s : State) (q : SeqNumber) (x : Option Sequence) : (s.setSequence q x).groups = s.groups := rfl
@[simp] theorem State.setSequence_pendingList (s : State) (q : SeqNumber) (x : Option Sequence) : (s.setSequence q x).pendingList = s.pendingList := rfl
@[simp] theorem State.setSequence_sessions (s : State) (q : SeqNumber) (x : Option Sequence) : (s.setSequence q x).sessions = s.sessions := rfl
@[simp] theorem State.setSequence_slots (s : State) (q : SeqNumber) (x : Option Sequence) : (s.setSequence q x).slots = s.slots := rfl
@[simp] theorem State.setSequence_wakeWatches (s : State) (q : SeqNumber) (x : Option Sequence) : (s.setSequence q x).wakeWatches = s.wakeWatches := rfl
@[simp] theorem State.setSequence_wakeOut (s : State) (q : SeqNumber) (x : Option Sequence) : (s.setSequence q x).wakeOut = s.wakeOut := rfl
@[simp] theorem State.setSequence_attention (s : State) (q : SeqNumber) (x : Option Sequence) : (s.setSequence q x).attention = s.attention := rfl
@[simp] theorem State.setSequence_presence (s : State) (q : SeqNumber) (x : Option Sequence) : (s.setSequence q x).presence = s.presence := rfl
@[simp] theorem State.setSequence_loader (s : State) (q : SeqNumber) (x : Option Sequence) : (s.setSequence q x).loader = s.loader := rfl
@[simp] theorem State.setSequence_ports (s : State) (q : SeqNumber) (x : Option Sequence) : (s.setSequence q x).ports = s.ports := rfl
@[simp] theorem State.setSequence_flash (s : State) (q : SeqNumber) (x : Option Sequence) : (s.setSequence q x).flash = s.flash := rfl
@[simp] theorem State.setSequence_choices (s : State) (q : SeqNumber) (x : Option Sequence) : (s.setSequence q x).choices = s.choices := rfl
@[simp] theorem State.setSequence_pending (s : State) (q : SeqNumber) (x : Option Sequence) : (s.setSequence q x).pending = s.pending := rfl

/-! ### setPort -/

@[simp] theorem State.setPort_lineTime (s : State) (n : Port) (x : PortRecord) : (s.setPort n x).lineTime = s.lineTime := rfl
@[simp] theorem State.setPort_resetLow (s : State) (n : Port) (x : PortRecord) : (s.setPort n x).resetLow = s.resetLow := rfl
@[simp] theorem State.setPort_lines (s : State) (n : Port) (x : PortRecord) : (s.setPort n x).lines = s.lines := rfl
@[simp] theorem State.setPort_interlocks (s : State) (n : Port) (x : PortRecord) : (s.setPort n x).interlocks = s.interlocks := rfl
@[simp] theorem State.setPort_groups (s : State) (n : Port) (x : PortRecord) : (s.setPort n x).groups = s.groups := rfl
@[simp] theorem State.setPort_pendingList (s : State) (n : Port) (x : PortRecord) : (s.setPort n x).pendingList = s.pendingList := rfl
@[simp] theorem State.setPort_sessions (s : State) (n : Port) (x : PortRecord) : (s.setPort n x).sessions = s.sessions := rfl
@[simp] theorem State.setPort_store (s : State) (n : Port) (x : PortRecord) : (s.setPort n x).store = s.store := rfl
@[simp] theorem State.setPort_slots (s : State) (n : Port) (x : PortRecord) : (s.setPort n x).slots = s.slots := rfl
@[simp] theorem State.setPort_wakeWatches (s : State) (n : Port) (x : PortRecord) : (s.setPort n x).wakeWatches = s.wakeWatches := rfl
@[simp] theorem State.setPort_wakeOut (s : State) (n : Port) (x : PortRecord) : (s.setPort n x).wakeOut = s.wakeOut := rfl
@[simp] theorem State.setPort_attention (s : State) (n : Port) (x : PortRecord) : (s.setPort n x).attention = s.attention := rfl
@[simp] theorem State.setPort_presence (s : State) (n : Port) (x : PortRecord) : (s.setPort n x).presence = s.presence := rfl
@[simp] theorem State.setPort_loader (s : State) (n : Port) (x : PortRecord) : (s.setPort n x).loader = s.loader := rfl
@[simp] theorem State.setPort_flash (s : State) (n : Port) (x : PortRecord) : (s.setPort n x).flash = s.flash := rfl
@[simp] theorem State.setPort_choices (s : State) (n : Port) (x : PortRecord) : (s.setPort n x).choices = s.choices := rfl
@[simp] theorem State.setPort_pending (s : State) (n : Port) (x : PortRecord) : (s.setPort n x).pending = s.pending := rfl

/-! ### modifyPort -/

@[simp] theorem State.modifyPort_lineTime (s : State) (n : Port) (f : PortRecord → PortRecord) : (s.modifyPort n f).lineTime = s.lineTime := rfl
@[simp] theorem State.modifyPort_resetLow (s : State) (n : Port) (f : PortRecord → PortRecord) : (s.modifyPort n f).resetLow = s.resetLow := rfl
@[simp] theorem State.modifyPort_lines (s : State) (n : Port) (f : PortRecord → PortRecord) : (s.modifyPort n f).lines = s.lines := rfl
@[simp] theorem State.modifyPort_interlocks (s : State) (n : Port) (f : PortRecord → PortRecord) : (s.modifyPort n f).interlocks = s.interlocks := rfl
@[simp] theorem State.modifyPort_groups (s : State) (n : Port) (f : PortRecord → PortRecord) : (s.modifyPort n f).groups = s.groups := rfl
@[simp] theorem State.modifyPort_pendingList (s : State) (n : Port) (f : PortRecord → PortRecord) : (s.modifyPort n f).pendingList = s.pendingList := rfl
@[simp] theorem State.modifyPort_sessions (s : State) (n : Port) (f : PortRecord → PortRecord) : (s.modifyPort n f).sessions = s.sessions := rfl
@[simp] theorem State.modifyPort_store (s : State) (n : Port) (f : PortRecord → PortRecord) : (s.modifyPort n f).store = s.store := rfl
@[simp] theorem State.modifyPort_slots (s : State) (n : Port) (f : PortRecord → PortRecord) : (s.modifyPort n f).slots = s.slots := rfl
@[simp] theorem State.modifyPort_wakeWatches (s : State) (n : Port) (f : PortRecord → PortRecord) : (s.modifyPort n f).wakeWatches = s.wakeWatches := rfl
@[simp] theorem State.modifyPort_wakeOut (s : State) (n : Port) (f : PortRecord → PortRecord) : (s.modifyPort n f).wakeOut = s.wakeOut := rfl
@[simp] theorem State.modifyPort_attention (s : State) (n : Port) (f : PortRecord → PortRecord) : (s.modifyPort n f).attention = s.attention := rfl
@[simp] theorem State.modifyPort_presence (s : State) (n : Port) (f : PortRecord → PortRecord) : (s.modifyPort n f).presence = s.presence := rfl
@[simp] theorem State.modifyPort_loader (s : State) (n : Port) (f : PortRecord → PortRecord) : (s.modifyPort n f).loader = s.loader := rfl
@[simp] theorem State.modifyPort_flash (s : State) (n : Port) (f : PortRecord → PortRecord) : (s.modifyPort n f).flash = s.flash := rfl
@[simp] theorem State.modifyPort_choices (s : State) (n : Port) (f : PortRecord → PortRecord) : (s.modifyPort n f).choices = s.choices := rfl
@[simp] theorem State.modifyPort_pending (s : State) (n : Port) (f : PortRecord → PortRecord) : (s.modifyPort n f).pending = s.pending := rfl

/-! ### modifyLoader -/

@[simp] theorem State.modifyLoader_lineTime (s : State) (f : Loader → Loader) : (s.modifyLoader f).lineTime = s.lineTime := rfl
@[simp] theorem State.modifyLoader_resetLow (s : State) (f : Loader → Loader) : (s.modifyLoader f).resetLow = s.resetLow := rfl
@[simp] theorem State.modifyLoader_lines (s : State) (f : Loader → Loader) : (s.modifyLoader f).lines = s.lines := rfl
@[simp] theorem State.modifyLoader_interlocks (s : State) (f : Loader → Loader) : (s.modifyLoader f).interlocks = s.interlocks := rfl
@[simp] theorem State.modifyLoader_groups (s : State) (f : Loader → Loader) : (s.modifyLoader f).groups = s.groups := rfl
@[simp] theorem State.modifyLoader_pendingList (s : State) (f : Loader → Loader) : (s.modifyLoader f).pendingList = s.pendingList := rfl
@[simp] theorem State.modifyLoader_sessions (s : State) (f : Loader → Loader) : (s.modifyLoader f).sessions = s.sessions := rfl
@[simp] theorem State.modifyLoader_store (s : State) (f : Loader → Loader) : (s.modifyLoader f).store = s.store := rfl
@[simp] theorem State.modifyLoader_slots (s : State) (f : Loader → Loader) : (s.modifyLoader f).slots = s.slots := rfl
@[simp] theorem State.modifyLoader_wakeWatches (s : State) (f : Loader → Loader) : (s.modifyLoader f).wakeWatches = s.wakeWatches := rfl
@[simp] theorem State.modifyLoader_wakeOut (s : State) (f : Loader → Loader) : (s.modifyLoader f).wakeOut = s.wakeOut := rfl
@[simp] theorem State.modifyLoader_attention (s : State) (f : Loader → Loader) : (s.modifyLoader f).attention = s.attention := rfl
@[simp] theorem State.modifyLoader_presence (s : State) (f : Loader → Loader) : (s.modifyLoader f).presence = s.presence := rfl
@[simp] theorem State.modifyLoader_ports (s : State) (f : Loader → Loader) : (s.modifyLoader f).ports = s.ports := rfl
@[simp] theorem State.modifyLoader_flash (s : State) (f : Loader → Loader) : (s.modifyLoader f).flash = s.flash := rfl
@[simp] theorem State.modifyLoader_choices (s : State) (f : Loader → Loader) : (s.modifyLoader f).choices = s.choices := rfl
@[simp] theorem State.modifyLoader_pending (s : State) (f : Loader → Loader) : (s.modifyLoader f).pending = s.pending := rfl

/-! ### setSpare -/

@[simp] theorem State.setSpare_lineTime (s : State) (x : SpareState) : (s.setSpare x).lineTime = s.lineTime := rfl
@[simp] theorem State.setSpare_resetLow (s : State) (x : SpareState) : (s.setSpare x).resetLow = s.resetLow := rfl
@[simp] theorem State.setSpare_lines (s : State) (x : SpareState) : (s.setSpare x).lines = s.lines := rfl
@[simp] theorem State.setSpare_interlocks (s : State) (x : SpareState) : (s.setSpare x).interlocks = s.interlocks := rfl
@[simp] theorem State.setSpare_groups (s : State) (x : SpareState) : (s.setSpare x).groups = s.groups := rfl
@[simp] theorem State.setSpare_pendingList (s : State) (x : SpareState) : (s.setSpare x).pendingList = s.pendingList := rfl
@[simp] theorem State.setSpare_sessions (s : State) (x : SpareState) : (s.setSpare x).sessions = s.sessions := rfl
@[simp] theorem State.setSpare_store (s : State) (x : SpareState) : (s.setSpare x).store = s.store := rfl
@[simp] theorem State.setSpare_slots (s : State) (x : SpareState) : (s.setSpare x).slots = s.slots := rfl
@[simp] theorem State.setSpare_wakeWatches (s : State) (x : SpareState) : (s.setSpare x).wakeWatches = s.wakeWatches := rfl
@[simp] theorem State.setSpare_wakeOut (s : State) (x : SpareState) : (s.setSpare x).wakeOut = s.wakeOut := rfl
@[simp] theorem State.setSpare_attention (s : State) (x : SpareState) : (s.setSpare x).attention = s.attention := rfl
@[simp] theorem State.setSpare_presence (s : State) (x : SpareState) : (s.setSpare x).presence = s.presence := rfl
@[simp] theorem State.setSpare_ports (s : State) (x : SpareState) : (s.setSpare x).ports = s.ports := rfl
@[simp] theorem State.setSpare_flash (s : State) (x : SpareState) : (s.setSpare x).flash = s.flash := rfl
@[simp] theorem State.setSpare_choices (s : State) (x : SpareState) : (s.setSpare x).choices = s.choices := rfl
@[simp] theorem State.setSpare_pending (s : State) (x : SpareState) : (s.setSpare x).pending = s.pending := rfl

/-! ### setFlash -/

@[simp] theorem State.setFlash_lineTime (s : State) (m : List Host.Cell) : (s.setFlash m).lineTime = s.lineTime := rfl
@[simp] theorem State.setFlash_resetLow (s : State) (m : List Host.Cell) : (s.setFlash m).resetLow = s.resetLow := rfl
@[simp] theorem State.setFlash_lines (s : State) (m : List Host.Cell) : (s.setFlash m).lines = s.lines := rfl
@[simp] theorem State.setFlash_interlocks (s : State) (m : List Host.Cell) : (s.setFlash m).interlocks = s.interlocks := rfl
@[simp] theorem State.setFlash_groups (s : State) (m : List Host.Cell) : (s.setFlash m).groups = s.groups := rfl
@[simp] theorem State.setFlash_pendingList (s : State) (m : List Host.Cell) : (s.setFlash m).pendingList = s.pendingList := rfl
@[simp] theorem State.setFlash_sessions (s : State) (m : List Host.Cell) : (s.setFlash m).sessions = s.sessions := rfl
@[simp] theorem State.setFlash_store (s : State) (m : List Host.Cell) : (s.setFlash m).store = s.store := rfl
@[simp] theorem State.setFlash_slots (s : State) (m : List Host.Cell) : (s.setFlash m).slots = s.slots := rfl
@[simp] theorem State.setFlash_wakeWatches (s : State) (m : List Host.Cell) : (s.setFlash m).wakeWatches = s.wakeWatches := rfl
@[simp] theorem State.setFlash_wakeOut (s : State) (m : List Host.Cell) : (s.setFlash m).wakeOut = s.wakeOut := rfl
@[simp] theorem State.setFlash_attention (s : State) (m : List Host.Cell) : (s.setFlash m).attention = s.attention := rfl
@[simp] theorem State.setFlash_presence (s : State) (m : List Host.Cell) : (s.setFlash m).presence = s.presence := rfl
@[simp] theorem State.setFlash_loader (s : State) (m : List Host.Cell) : (s.setFlash m).loader = s.loader := rfl
@[simp] theorem State.setFlash_ports (s : State) (m : List Host.Cell) : (s.setFlash m).ports = s.ports := rfl
@[simp] theorem State.setFlash_choices (s : State) (m : List Host.Cell) : (s.setFlash m).choices = s.choices := rfl
@[simp] theorem State.setFlash_pending (s : State) (m : List Host.Cell) : (s.setFlash m).pending = s.pending := rfl

/-! ### removeEntry -/

@[simp] theorem State.removeEntry_lineTime (s : State) (n : Port) (t : TicketId) : (s.removeEntry n t).lineTime = s.lineTime := rfl
@[simp] theorem State.removeEntry_resetLow (s : State) (n : Port) (t : TicketId) : (s.removeEntry n t).resetLow = s.resetLow := rfl
@[simp] theorem State.removeEntry_lines (s : State) (n : Port) (t : TicketId) : (s.removeEntry n t).lines = s.lines := rfl
@[simp] theorem State.removeEntry_interlocks (s : State) (n : Port) (t : TicketId) : (s.removeEntry n t).interlocks = s.interlocks := rfl
@[simp] theorem State.removeEntry_groups (s : State) (n : Port) (t : TicketId) : (s.removeEntry n t).groups = s.groups := rfl
@[simp] theorem State.removeEntry_sessions (s : State) (n : Port) (t : TicketId) : (s.removeEntry n t).sessions = s.sessions := rfl
@[simp] theorem State.removeEntry_store (s : State) (n : Port) (t : TicketId) : (s.removeEntry n t).store = s.store := rfl
@[simp] theorem State.removeEntry_slots (s : State) (n : Port) (t : TicketId) : (s.removeEntry n t).slots = s.slots := rfl
@[simp] theorem State.removeEntry_wakeWatches (s : State) (n : Port) (t : TicketId) : (s.removeEntry n t).wakeWatches = s.wakeWatches := rfl
@[simp] theorem State.removeEntry_wakeOut (s : State) (n : Port) (t : TicketId) : (s.removeEntry n t).wakeOut = s.wakeOut := rfl
@[simp] theorem State.removeEntry_attention (s : State) (n : Port) (t : TicketId) : (s.removeEntry n t).attention = s.attention := rfl
@[simp] theorem State.removeEntry_presence (s : State) (n : Port) (t : TicketId) : (s.removeEntry n t).presence = s.presence := rfl
@[simp] theorem State.removeEntry_loader (s : State) (n : Port) (t : TicketId) : (s.removeEntry n t).loader = s.loader := rfl
@[simp] theorem State.removeEntry_ports (s : State) (n : Port) (t : TicketId) : (s.removeEntry n t).ports = s.ports := rfl
@[simp] theorem State.removeEntry_flash (s : State) (n : Port) (t : TicketId) : (s.removeEntry n t).flash = s.flash := rfl
@[simp] theorem State.removeEntry_choices (s : State) (n : Port) (t : TicketId) : (s.removeEntry n t).choices = s.choices := rfl
@[simp] theorem State.removeEntry_pending (s : State) (n : Port) (t : TicketId) : (s.removeEntry n t).pending = s.pending := rfl

/-! ### dropEntries -/

@[simp] theorem State.dropEntries_lineTime (s : State) (n : Port) : (s.dropEntries n).lineTime = s.lineTime := rfl
@[simp] theorem State.dropEntries_resetLow (s : State) (n : Port) : (s.dropEntries n).resetLow = s.resetLow := rfl
@[simp] theorem State.dropEntries_lines (s : State) (n : Port) : (s.dropEntries n).lines = s.lines := rfl
@[simp] theorem State.dropEntries_interlocks (s : State) (n : Port) : (s.dropEntries n).interlocks = s.interlocks := rfl
@[simp] theorem State.dropEntries_groups (s : State) (n : Port) : (s.dropEntries n).groups = s.groups := rfl
@[simp] theorem State.dropEntries_sessions (s : State) (n : Port) : (s.dropEntries n).sessions = s.sessions := rfl
@[simp] theorem State.dropEntries_store (s : State) (n : Port) : (s.dropEntries n).store = s.store := rfl
@[simp] theorem State.dropEntries_slots (s : State) (n : Port) : (s.dropEntries n).slots = s.slots := rfl
@[simp] theorem State.dropEntries_wakeWatches (s : State) (n : Port) : (s.dropEntries n).wakeWatches = s.wakeWatches := rfl
@[simp] theorem State.dropEntries_wakeOut (s : State) (n : Port) : (s.dropEntries n).wakeOut = s.wakeOut := rfl
@[simp] theorem State.dropEntries_attention (s : State) (n : Port) : (s.dropEntries n).attention = s.attention := rfl
@[simp] theorem State.dropEntries_presence (s : State) (n : Port) : (s.dropEntries n).presence = s.presence := rfl
@[simp] theorem State.dropEntries_loader (s : State) (n : Port) : (s.dropEntries n).loader = s.loader := rfl
@[simp] theorem State.dropEntries_ports (s : State) (n : Port) : (s.dropEntries n).ports = s.ports := rfl
@[simp] theorem State.dropEntries_flash (s : State) (n : Port) : (s.dropEntries n).flash = s.flash := rfl
@[simp] theorem State.dropEntries_choices (s : State) (n : Port) : (s.dropEntries n).choices = s.choices := rfl
@[simp] theorem State.dropEntries_pending (s : State) (n : Port) : (s.dropEntries n).pending = s.pending := rfl

/-! ### reattend -/

@[simp] theorem State.reattend_lineTime (s : State) (n : Port) : (s.reattend n).lineTime = s.lineTime := by unfold State.reattend; rfl
@[simp] theorem State.reattend_resetLow (s : State) (n : Port) : (s.reattend n).resetLow = s.resetLow := by unfold State.reattend; rfl
@[simp] theorem State.reattend_lines (s : State) (n : Port) : (s.reattend n).lines = s.lines := by unfold State.reattend; rfl
@[simp] theorem State.reattend_interlocks (s : State) (n : Port) : (s.reattend n).interlocks = s.interlocks := by unfold State.reattend; rfl
@[simp] theorem State.reattend_groups (s : State) (n : Port) : (s.reattend n).groups = s.groups := by unfold State.reattend; rfl
@[simp] theorem State.reattend_pendingList (s : State) (n : Port) : (s.reattend n).pendingList = s.pendingList := by unfold State.reattend; rfl
@[simp] theorem State.reattend_sessions (s : State) (n : Port) : (s.reattend n).sessions = s.sessions := by unfold State.reattend; rfl
@[simp] theorem State.reattend_store (s : State) (n : Port) : (s.reattend n).store = s.store := by unfold State.reattend; rfl
@[simp] theorem State.reattend_slots (s : State) (n : Port) : (s.reattend n).slots = s.slots := by unfold State.reattend; rfl
@[simp] theorem State.reattend_wakeWatches (s : State) (n : Port) : (s.reattend n).wakeWatches = s.wakeWatches := by unfold State.reattend; rfl
@[simp] theorem State.reattend_wakeOut (s : State) (n : Port) : (s.reattend n).wakeOut = s.wakeOut := by unfold State.reattend; rfl
@[simp] theorem State.reattend_presence (s : State) (n : Port) : (s.reattend n).presence = s.presence := by unfold State.reattend; rfl
@[simp] theorem State.reattend_loader (s : State) (n : Port) : (s.reattend n).loader = s.loader := by unfold State.reattend; rfl
@[simp] theorem State.reattend_ports (s : State) (n : Port) : (s.reattend n).ports = s.ports := by unfold State.reattend; rfl
@[simp] theorem State.reattend_flash (s : State) (n : Port) : (s.reattend n).flash = s.flash := by unfold State.reattend; rfl
@[simp] theorem State.reattend_choices (s : State) (n : Port) : (s.reattend n).choices = s.choices := by unfold State.reattend; rfl
@[simp] theorem State.reattend_pending (s : State) (n : Port) : (s.reattend n).pending = s.pending := by unfold State.reattend; rfl

/-! ### setWakeOut -/

@[simp] theorem State.setWakeOut_lineTime (s : State) (n : Port) (b : Bool) : (s.setWakeOut n b).lineTime = s.lineTime := rfl
@[simp] theorem State.setWakeOut_resetLow (s : State) (n : Port) (b : Bool) : (s.setWakeOut n b).resetLow = s.resetLow := rfl
@[simp] theorem State.setWakeOut_lines (s : State) (n : Port) (b : Bool) : (s.setWakeOut n b).lines = s.lines := rfl
@[simp] theorem State.setWakeOut_interlocks (s : State) (n : Port) (b : Bool) : (s.setWakeOut n b).interlocks = s.interlocks := rfl
@[simp] theorem State.setWakeOut_groups (s : State) (n : Port) (b : Bool) : (s.setWakeOut n b).groups = s.groups := rfl
@[simp] theorem State.setWakeOut_pendingList (s : State) (n : Port) (b : Bool) : (s.setWakeOut n b).pendingList = s.pendingList := rfl
@[simp] theorem State.setWakeOut_sessions (s : State) (n : Port) (b : Bool) : (s.setWakeOut n b).sessions = s.sessions := rfl
@[simp] theorem State.setWakeOut_store (s : State) (n : Port) (b : Bool) : (s.setWakeOut n b).store = s.store := rfl
@[simp] theorem State.setWakeOut_slots (s : State) (n : Port) (b : Bool) : (s.setWakeOut n b).slots = s.slots := rfl
@[simp] theorem State.setWakeOut_wakeWatches (s : State) (n : Port) (b : Bool) : (s.setWakeOut n b).wakeWatches = s.wakeWatches := rfl
@[simp] theorem State.setWakeOut_attention (s : State) (n : Port) (b : Bool) : (s.setWakeOut n b).attention = s.attention := rfl
@[simp] theorem State.setWakeOut_presence (s : State) (n : Port) (b : Bool) : (s.setWakeOut n b).presence = s.presence := rfl
@[simp] theorem State.setWakeOut_loader (s : State) (n : Port) (b : Bool) : (s.setWakeOut n b).loader = s.loader := rfl
@[simp] theorem State.setWakeOut_ports (s : State) (n : Port) (b : Bool) : (s.setWakeOut n b).ports = s.ports := rfl
@[simp] theorem State.setWakeOut_flash (s : State) (n : Port) (b : Bool) : (s.setWakeOut n b).flash = s.flash := rfl
@[simp] theorem State.setWakeOut_choices (s : State) (n : Port) (b : Bool) : (s.setWakeOut n b).choices = s.choices := rfl
@[simp] theorem State.setWakeOut_pending (s : State) (n : Port) (b : Bool) : (s.setWakeOut n b).pending = s.pending := rfl

/-! ### activateWakes -/

@[simp] theorem State.activateWakes_lineTime (s : State) (n : Port) : (s.activateWakes n).lineTime = s.lineTime := rfl
@[simp] theorem State.activateWakes_resetLow (s : State) (n : Port) : (s.activateWakes n).resetLow = s.resetLow := rfl
@[simp] theorem State.activateWakes_lines (s : State) (n : Port) : (s.activateWakes n).lines = s.lines := rfl
@[simp] theorem State.activateWakes_interlocks (s : State) (n : Port) : (s.activateWakes n).interlocks = s.interlocks := rfl
@[simp] theorem State.activateWakes_groups (s : State) (n : Port) : (s.activateWakes n).groups = s.groups := rfl
@[simp] theorem State.activateWakes_pendingList (s : State) (n : Port) : (s.activateWakes n).pendingList = s.pendingList := rfl
@[simp] theorem State.activateWakes_sessions (s : State) (n : Port) : (s.activateWakes n).sessions = s.sessions := rfl
@[simp] theorem State.activateWakes_store (s : State) (n : Port) : (s.activateWakes n).store = s.store := rfl
@[simp] theorem State.activateWakes_slots (s : State) (n : Port) : (s.activateWakes n).slots = s.slots := rfl
@[simp] theorem State.activateWakes_wakeOut (s : State) (n : Port) : (s.activateWakes n).wakeOut = s.wakeOut := rfl
@[simp] theorem State.activateWakes_attention (s : State) (n : Port) : (s.activateWakes n).attention = s.attention := rfl
@[simp] theorem State.activateWakes_presence (s : State) (n : Port) : (s.activateWakes n).presence = s.presence := rfl
@[simp] theorem State.activateWakes_loader (s : State) (n : Port) : (s.activateWakes n).loader = s.loader := rfl
@[simp] theorem State.activateWakes_ports (s : State) (n : Port) : (s.activateWakes n).ports = s.ports := rfl
@[simp] theorem State.activateWakes_flash (s : State) (n : Port) : (s.activateWakes n).flash = s.flash := rfl
@[simp] theorem State.activateWakes_choices (s : State) (n : Port) : (s.activateWakes n).choices = s.choices := rfl
@[simp] theorem State.activateWakes_pending (s : State) (n : Port) : (s.activateWakes n).pending = s.pending := rfl

/-! ### deactivateWakes -/

@[simp] theorem State.deactivateWakes_lineTime (s : State) (n : Port) : (s.deactivateWakes n).lineTime = s.lineTime := rfl
@[simp] theorem State.deactivateWakes_resetLow (s : State) (n : Port) : (s.deactivateWakes n).resetLow = s.resetLow := rfl
@[simp] theorem State.deactivateWakes_lines (s : State) (n : Port) : (s.deactivateWakes n).lines = s.lines := rfl
@[simp] theorem State.deactivateWakes_interlocks (s : State) (n : Port) : (s.deactivateWakes n).interlocks = s.interlocks := rfl
@[simp] theorem State.deactivateWakes_groups (s : State) (n : Port) : (s.deactivateWakes n).groups = s.groups := rfl
@[simp] theorem State.deactivateWakes_pendingList (s : State) (n : Port) : (s.deactivateWakes n).pendingList = s.pendingList := rfl
@[simp] theorem State.deactivateWakes_sessions (s : State) (n : Port) : (s.deactivateWakes n).sessions = s.sessions := rfl
@[simp] theorem State.deactivateWakes_store (s : State) (n : Port) : (s.deactivateWakes n).store = s.store := rfl
@[simp] theorem State.deactivateWakes_slots (s : State) (n : Port) : (s.deactivateWakes n).slots = s.slots := rfl
@[simp] theorem State.deactivateWakes_wakeOut (s : State) (n : Port) : (s.deactivateWakes n).wakeOut = s.wakeOut := rfl
@[simp] theorem State.deactivateWakes_attention (s : State) (n : Port) : (s.deactivateWakes n).attention = s.attention := rfl
@[simp] theorem State.deactivateWakes_presence (s : State) (n : Port) : (s.deactivateWakes n).presence = s.presence := rfl
@[simp] theorem State.deactivateWakes_loader (s : State) (n : Port) : (s.deactivateWakes n).loader = s.loader := rfl
@[simp] theorem State.deactivateWakes_ports (s : State) (n : Port) : (s.deactivateWakes n).ports = s.ports := rfl
@[simp] theorem State.deactivateWakes_flash (s : State) (n : Port) : (s.deactivateWakes n).flash = s.flash := rfl
@[simp] theorem State.deactivateWakes_choices (s : State) (n : Port) : (s.deactivateWakes n).choices = s.choices := rfl
@[simp] theorem State.deactivateWakes_pending (s : State) (n : Port) : (s.deactivateWakes n).pending = s.pending := rfl

/-! ### unbind -/

@[simp] theorem State.unbind_lineTime (s : State) (k : SlotId) : (s.unbind k).lineTime = s.lineTime := by unfold State.unbind; rfl
@[simp] theorem State.unbind_resetLow (s : State) (k : SlotId) : (s.unbind k).resetLow = s.resetLow := by unfold State.unbind; rfl
@[simp] theorem State.unbind_interlocks (s : State) (k : SlotId) : (s.unbind k).interlocks = s.interlocks := by unfold State.unbind; rfl
@[simp] theorem State.unbind_groups (s : State) (k : SlotId) : (s.unbind k).groups = s.groups := by unfold State.unbind; rfl
@[simp] theorem State.unbind_pendingList (s : State) (k : SlotId) : (s.unbind k).pendingList = s.pendingList := by unfold State.unbind; rfl
@[simp] theorem State.unbind_sessions (s : State) (k : SlotId) : (s.unbind k).sessions = s.sessions := by unfold State.unbind; rfl
@[simp] theorem State.unbind_store (s : State) (k : SlotId) : (s.unbind k).store = s.store := by unfold State.unbind; rfl
@[simp] theorem State.unbind_slots (s : State) (k : SlotId) : (s.unbind k).slots = s.slots := by unfold State.unbind; rfl
@[simp] theorem State.unbind_wakeWatches (s : State) (k : SlotId) : (s.unbind k).wakeWatches = s.wakeWatches := by unfold State.unbind; rfl
@[simp] theorem State.unbind_wakeOut (s : State) (k : SlotId) : (s.unbind k).wakeOut = s.wakeOut := by unfold State.unbind; rfl
@[simp] theorem State.unbind_attention (s : State) (k : SlotId) : (s.unbind k).attention = s.attention := by unfold State.unbind; rfl
@[simp] theorem State.unbind_presence (s : State) (k : SlotId) : (s.unbind k).presence = s.presence := by unfold State.unbind; rfl
@[simp] theorem State.unbind_loader (s : State) (k : SlotId) : (s.unbind k).loader = s.loader := by unfold State.unbind; rfl
@[simp] theorem State.unbind_ports (s : State) (k : SlotId) : (s.unbind k).ports = s.ports := by unfold State.unbind; rfl
@[simp] theorem State.unbind_flash (s : State) (k : SlotId) : (s.unbind k).flash = s.flash := by unfold State.unbind; rfl
@[simp] theorem State.unbind_choices (s : State) (k : SlotId) : (s.unbind k).choices = s.choices := by unfold State.unbind; rfl
@[simp] theorem State.unbind_pending (s : State) (k : SlotId) : (s.unbind k).pending = s.pending := by unfold State.unbind; rfl

/-! ### takeFrame -/

@[simp] theorem State.takeFrame_lineTime (s : State) (n : Port) (received : Nat) (seq : Option Byte) : (s.takeFrame n received seq).lineTime = s.lineTime := rfl
@[simp] theorem State.takeFrame_resetLow (s : State) (n : Port) (received : Nat) (seq : Option Byte) : (s.takeFrame n received seq).resetLow = s.resetLow := rfl
@[simp] theorem State.takeFrame_lines (s : State) (n : Port) (received : Nat) (seq : Option Byte) : (s.takeFrame n received seq).lines = s.lines := rfl
@[simp] theorem State.takeFrame_interlocks (s : State) (n : Port) (received : Nat) (seq : Option Byte) : (s.takeFrame n received seq).interlocks = s.interlocks := rfl
@[simp] theorem State.takeFrame_groups (s : State) (n : Port) (received : Nat) (seq : Option Byte) : (s.takeFrame n received seq).groups = s.groups := rfl
@[simp] theorem State.takeFrame_pendingList (s : State) (n : Port) (received : Nat) (seq : Option Byte) : (s.takeFrame n received seq).pendingList = s.pendingList := rfl
@[simp] theorem State.takeFrame_sessions (s : State) (n : Port) (received : Nat) (seq : Option Byte) : (s.takeFrame n received seq).sessions = s.sessions := rfl
@[simp] theorem State.takeFrame_store (s : State) (n : Port) (received : Nat) (seq : Option Byte) : (s.takeFrame n received seq).store = s.store := rfl
@[simp] theorem State.takeFrame_slots (s : State) (n : Port) (received : Nat) (seq : Option Byte) : (s.takeFrame n received seq).slots = s.slots := rfl
@[simp] theorem State.takeFrame_wakeWatches (s : State) (n : Port) (received : Nat) (seq : Option Byte) : (s.takeFrame n received seq).wakeWatches = s.wakeWatches := rfl
@[simp] theorem State.takeFrame_wakeOut (s : State) (n : Port) (received : Nat) (seq : Option Byte) : (s.takeFrame n received seq).wakeOut = s.wakeOut := rfl
@[simp] theorem State.takeFrame_attention (s : State) (n : Port) (received : Nat) (seq : Option Byte) : (s.takeFrame n received seq).attention = s.attention := rfl
@[simp] theorem State.takeFrame_presence (s : State) (n : Port) (received : Nat) (seq : Option Byte) : (s.takeFrame n received seq).presence = s.presence := rfl
@[simp] theorem State.takeFrame_loader (s : State) (n : Port) (received : Nat) (seq : Option Byte) : (s.takeFrame n received seq).loader = s.loader := rfl
@[simp] theorem State.takeFrame_flash (s : State) (n : Port) (received : Nat) (seq : Option Byte) : (s.takeFrame n received seq).flash = s.flash := rfl
@[simp] theorem State.takeFrame_choices (s : State) (n : Port) (received : Nat) (seq : Option Byte) : (s.takeFrame n received seq).choices = s.choices := rfl
@[simp] theorem State.takeFrame_pending (s : State) (n : Port) (received : Nat) (seq : Option Byte) : (s.takeFrame n received seq).pending = s.pending := rfl

/-! ### ignoreFrame -/

@[simp] theorem State.ignoreFrame_lineTime (s : State) (n : Port) : (s.ignoreFrame n).lineTime = s.lineTime := rfl
@[simp] theorem State.ignoreFrame_resetLow (s : State) (n : Port) : (s.ignoreFrame n).resetLow = s.resetLow := rfl
@[simp] theorem State.ignoreFrame_lines (s : State) (n : Port) : (s.ignoreFrame n).lines = s.lines := rfl
@[simp] theorem State.ignoreFrame_interlocks (s : State) (n : Port) : (s.ignoreFrame n).interlocks = s.interlocks := rfl
@[simp] theorem State.ignoreFrame_groups (s : State) (n : Port) : (s.ignoreFrame n).groups = s.groups := rfl
@[simp] theorem State.ignoreFrame_pendingList (s : State) (n : Port) : (s.ignoreFrame n).pendingList = s.pendingList := rfl
@[simp] theorem State.ignoreFrame_sessions (s : State) (n : Port) : (s.ignoreFrame n).sessions = s.sessions := rfl
@[simp] theorem State.ignoreFrame_store (s : State) (n : Port) : (s.ignoreFrame n).store = s.store := rfl
@[simp] theorem State.ignoreFrame_slots (s : State) (n : Port) : (s.ignoreFrame n).slots = s.slots := rfl
@[simp] theorem State.ignoreFrame_wakeWatches (s : State) (n : Port) : (s.ignoreFrame n).wakeWatches = s.wakeWatches := rfl
@[simp] theorem State.ignoreFrame_wakeOut (s : State) (n : Port) : (s.ignoreFrame n).wakeOut = s.wakeOut := rfl
@[simp] theorem State.ignoreFrame_attention (s : State) (n : Port) : (s.ignoreFrame n).attention = s.attention := rfl
@[simp] theorem State.ignoreFrame_presence (s : State) (n : Port) : (s.ignoreFrame n).presence = s.presence := rfl
@[simp] theorem State.ignoreFrame_loader (s : State) (n : Port) : (s.ignoreFrame n).loader = s.loader := rfl
@[simp] theorem State.ignoreFrame_flash (s : State) (n : Port) : (s.ignoreFrame n).flash = s.flash := rfl
@[simp] theorem State.ignoreFrame_choices (s : State) (n : Port) : (s.ignoreFrame n).choices = s.choices := rfl
@[simp] theorem State.ignoreFrame_pending (s : State) (n : Port) : (s.ignoreFrame n).pending = s.pending := rfl

/-! ### place -/

@[simp] theorem State.place_lineTime (s : State) (n : Port) (seq : Byte) (r : Reply) (d i : Bool) : (s.place n seq r d i).lineTime = s.lineTime := rfl
@[simp] theorem State.place_resetLow (s : State) (n : Port) (seq : Byte) (r : Reply) (d i : Bool) : (s.place n seq r d i).resetLow = s.resetLow := rfl
@[simp] theorem State.place_lines (s : State) (n : Port) (seq : Byte) (r : Reply) (d i : Bool) : (s.place n seq r d i).lines = s.lines := rfl
@[simp] theorem State.place_interlocks (s : State) (n : Port) (seq : Byte) (r : Reply) (d i : Bool) : (s.place n seq r d i).interlocks = s.interlocks := rfl
@[simp] theorem State.place_groups (s : State) (n : Port) (seq : Byte) (r : Reply) (d i : Bool) : (s.place n seq r d i).groups = s.groups := rfl
@[simp] theorem State.place_pendingList (s : State) (n : Port) (seq : Byte) (r : Reply) (d i : Bool) : (s.place n seq r d i).pendingList = s.pendingList := rfl
@[simp] theorem State.place_sessions (s : State) (n : Port) (seq : Byte) (r : Reply) (d i : Bool) : (s.place n seq r d i).sessions = s.sessions := rfl
@[simp] theorem State.place_store (s : State) (n : Port) (seq : Byte) (r : Reply) (d i : Bool) : (s.place n seq r d i).store = s.store := rfl
@[simp] theorem State.place_slots (s : State) (n : Port) (seq : Byte) (r : Reply) (d i : Bool) : (s.place n seq r d i).slots = s.slots := rfl
@[simp] theorem State.place_wakeWatches (s : State) (n : Port) (seq : Byte) (r : Reply) (d i : Bool) : (s.place n seq r d i).wakeWatches = s.wakeWatches := rfl
@[simp] theorem State.place_wakeOut (s : State) (n : Port) (seq : Byte) (r : Reply) (d i : Bool) : (s.place n seq r d i).wakeOut = s.wakeOut := rfl
@[simp] theorem State.place_attention (s : State) (n : Port) (seq : Byte) (r : Reply) (d i : Bool) : (s.place n seq r d i).attention = s.attention := rfl
@[simp] theorem State.place_presence (s : State) (n : Port) (seq : Byte) (r : Reply) (d i : Bool) : (s.place n seq r d i).presence = s.presence := rfl
@[simp] theorem State.place_loader (s : State) (n : Port) (seq : Byte) (r : Reply) (d i : Bool) : (s.place n seq r d i).loader = s.loader := rfl
@[simp] theorem State.place_flash (s : State) (n : Port) (seq : Byte) (r : Reply) (d i : Bool) : (s.place n seq r d i).flash = s.flash := rfl
@[simp] theorem State.place_choices (s : State) (n : Port) (seq : Byte) (r : Reply) (d i : Bool) : (s.place n seq r d i).choices = s.choices := rfl
@[simp] theorem State.place_pending (s : State) (n : Port) (seq : Byte) (r : Reply) (d i : Bool) : (s.place n seq r d i).pending = s.pending := rfl

/-! ### setDecoder -/

@[simp] theorem State.setDecoder_lineTime (s : State) (n : Port) (p : Decoder × Nat) : (s.setDecoder n p).lineTime = s.lineTime := rfl
@[simp] theorem State.setDecoder_resetLow (s : State) (n : Port) (p : Decoder × Nat) : (s.setDecoder n p).resetLow = s.resetLow := rfl
@[simp] theorem State.setDecoder_lines (s : State) (n : Port) (p : Decoder × Nat) : (s.setDecoder n p).lines = s.lines := rfl
@[simp] theorem State.setDecoder_interlocks (s : State) (n : Port) (p : Decoder × Nat) : (s.setDecoder n p).interlocks = s.interlocks := rfl
@[simp] theorem State.setDecoder_groups (s : State) (n : Port) (p : Decoder × Nat) : (s.setDecoder n p).groups = s.groups := rfl
@[simp] theorem State.setDecoder_pendingList (s : State) (n : Port) (p : Decoder × Nat) : (s.setDecoder n p).pendingList = s.pendingList := rfl
@[simp] theorem State.setDecoder_sessions (s : State) (n : Port) (p : Decoder × Nat) : (s.setDecoder n p).sessions = s.sessions := rfl
@[simp] theorem State.setDecoder_store (s : State) (n : Port) (p : Decoder × Nat) : (s.setDecoder n p).store = s.store := rfl
@[simp] theorem State.setDecoder_slots (s : State) (n : Port) (p : Decoder × Nat) : (s.setDecoder n p).slots = s.slots := rfl
@[simp] theorem State.setDecoder_wakeWatches (s : State) (n : Port) (p : Decoder × Nat) : (s.setDecoder n p).wakeWatches = s.wakeWatches := rfl
@[simp] theorem State.setDecoder_wakeOut (s : State) (n : Port) (p : Decoder × Nat) : (s.setDecoder n p).wakeOut = s.wakeOut := rfl
@[simp] theorem State.setDecoder_attention (s : State) (n : Port) (p : Decoder × Nat) : (s.setDecoder n p).attention = s.attention := rfl
@[simp] theorem State.setDecoder_presence (s : State) (n : Port) (p : Decoder × Nat) : (s.setDecoder n p).presence = s.presence := rfl
@[simp] theorem State.setDecoder_loader (s : State) (n : Port) (p : Decoder × Nat) : (s.setDecoder n p).loader = s.loader := rfl
@[simp] theorem State.setDecoder_flash (s : State) (n : Port) (p : Decoder × Nat) : (s.setDecoder n p).flash = s.flash := rfl
@[simp] theorem State.setDecoder_choices (s : State) (n : Port) (p : Decoder × Nat) : (s.setDecoder n p).choices = s.choices := rfl
@[simp] theorem State.setDecoder_pending (s : State) (n : Port) (p : Decoder × Nat) : (s.setDecoder n p).pending = s.pending := rfl

/-! ### collect -/

@[simp] theorem State.collect_lineTime (s : State) (n : Port) : (s.collect n).lineTime = s.lineTime := rfl
@[simp] theorem State.collect_resetLow (s : State) (n : Port) : (s.collect n).resetLow = s.resetLow := rfl
@[simp] theorem State.collect_lines (s : State) (n : Port) : (s.collect n).lines = s.lines := rfl
@[simp] theorem State.collect_interlocks (s : State) (n : Port) : (s.collect n).interlocks = s.interlocks := rfl
@[simp] theorem State.collect_groups (s : State) (n : Port) : (s.collect n).groups = s.groups := rfl
@[simp] theorem State.collect_pendingList (s : State) (n : Port) : (s.collect n).pendingList = s.pendingList := rfl
@[simp] theorem State.collect_sessions (s : State) (n : Port) : (s.collect n).sessions = s.sessions := rfl
@[simp] theorem State.collect_store (s : State) (n : Port) : (s.collect n).store = s.store := rfl
@[simp] theorem State.collect_slots (s : State) (n : Port) : (s.collect n).slots = s.slots := rfl
@[simp] theorem State.collect_wakeWatches (s : State) (n : Port) : (s.collect n).wakeWatches = s.wakeWatches := rfl
@[simp] theorem State.collect_wakeOut (s : State) (n : Port) : (s.collect n).wakeOut = s.wakeOut := rfl
@[simp] theorem State.collect_attention (s : State) (n : Port) : (s.collect n).attention = s.attention := rfl
@[simp] theorem State.collect_presence (s : State) (n : Port) : (s.collect n).presence = s.presence := rfl
@[simp] theorem State.collect_loader (s : State) (n : Port) : (s.collect n).loader = s.loader := rfl
@[simp] theorem State.collect_flash (s : State) (n : Port) : (s.collect n).flash = s.flash := rfl
@[simp] theorem State.collect_choices (s : State) (n : Port) : (s.collect n).choices = s.choices := rfl
@[simp] theorem State.collect_pending (s : State) (n : Port) : (s.collect n).pending = s.pending := rfl

/-! ### keepalive -/

@[simp] theorem State.keepalive_lineTime (s : State) (n : Port) : (s.keepalive n).lineTime = s.lineTime := rfl
@[simp] theorem State.keepalive_resetLow (s : State) (n : Port) : (s.keepalive n).resetLow = s.resetLow := rfl
@[simp] theorem State.keepalive_lines (s : State) (n : Port) : (s.keepalive n).lines = s.lines := rfl
@[simp] theorem State.keepalive_interlocks (s : State) (n : Port) : (s.keepalive n).interlocks = s.interlocks := rfl
@[simp] theorem State.keepalive_groups (s : State) (n : Port) : (s.keepalive n).groups = s.groups := rfl
@[simp] theorem State.keepalive_pendingList (s : State) (n : Port) : (s.keepalive n).pendingList = s.pendingList := rfl
@[simp] theorem State.keepalive_store (s : State) (n : Port) : (s.keepalive n).store = s.store := rfl
@[simp] theorem State.keepalive_slots (s : State) (n : Port) : (s.keepalive n).slots = s.slots := rfl
@[simp] theorem State.keepalive_wakeWatches (s : State) (n : Port) : (s.keepalive n).wakeWatches = s.wakeWatches := rfl
@[simp] theorem State.keepalive_wakeOut (s : State) (n : Port) : (s.keepalive n).wakeOut = s.wakeOut := rfl
@[simp] theorem State.keepalive_attention (s : State) (n : Port) : (s.keepalive n).attention = s.attention := rfl
@[simp] theorem State.keepalive_presence (s : State) (n : Port) : (s.keepalive n).presence = s.presence := rfl
@[simp] theorem State.keepalive_loader (s : State) (n : Port) : (s.keepalive n).loader = s.loader := rfl
@[simp] theorem State.keepalive_ports (s : State) (n : Port) : (s.keepalive n).ports = s.ports := rfl
@[simp] theorem State.keepalive_flash (s : State) (n : Port) : (s.keepalive n).flash = s.flash := rfl
@[simp] theorem State.keepalive_choices (s : State) (n : Port) : (s.keepalive n).choices = s.choices := rfl
@[simp] theorem State.keepalive_pending (s : State) (n : Port) : (s.keepalive n).pending = s.pending := rfl

/-! ### sense -/

@[simp] theorem State.sense_lineTime (s : State) (n : Port) (level : Level) : (s.sense n level).lineTime = s.lineTime := rfl
@[simp] theorem State.sense_resetLow (s : State) (n : Port) (level : Level) : (s.sense n level).resetLow = s.resetLow := rfl
@[simp] theorem State.sense_lines (s : State) (n : Port) (level : Level) : (s.sense n level).lines = s.lines := rfl
@[simp] theorem State.sense_interlocks (s : State) (n : Port) (level : Level) : (s.sense n level).interlocks = s.interlocks := rfl
@[simp] theorem State.sense_groups (s : State) (n : Port) (level : Level) : (s.sense n level).groups = s.groups := rfl
@[simp] theorem State.sense_pendingList (s : State) (n : Port) (level : Level) : (s.sense n level).pendingList = s.pendingList := rfl
@[simp] theorem State.sense_sessions (s : State) (n : Port) (level : Level) : (s.sense n level).sessions = s.sessions := rfl
@[simp] theorem State.sense_store (s : State) (n : Port) (level : Level) : (s.sense n level).store = s.store := rfl
@[simp] theorem State.sense_slots (s : State) (n : Port) (level : Level) : (s.sense n level).slots = s.slots := rfl
@[simp] theorem State.sense_wakeWatches (s : State) (n : Port) (level : Level) : (s.sense n level).wakeWatches = s.wakeWatches := rfl
@[simp] theorem State.sense_wakeOut (s : State) (n : Port) (level : Level) : (s.sense n level).wakeOut = s.wakeOut := rfl
@[simp] theorem State.sense_attention (s : State) (n : Port) (level : Level) : (s.sense n level).attention = s.attention := rfl
@[simp] theorem State.sense_loader (s : State) (n : Port) (level : Level) : (s.sense n level).loader = s.loader := rfl
@[simp] theorem State.sense_ports (s : State) (n : Port) (level : Level) : (s.sense n level).ports = s.ports := rfl
@[simp] theorem State.sense_flash (s : State) (n : Port) (level : Level) : (s.sense n level).flash = s.flash := rfl
@[simp] theorem State.sense_choices (s : State) (n : Port) (level : Level) : (s.sense n level).choices = s.choices := rfl
@[simp] theorem State.sense_pending (s : State) (n : Port) (level : Level) : (s.sense n level).pending = s.pending := rfl

/-! ### pass -/

@[simp] theorem State.pass_resetLow (s : State) : (s.pass).resetLow = s.resetLow := rfl
@[simp] theorem State.pass_lineTime (s : State) : (s.pass).lineTime = s.lineTime + 1 := rfl
@[simp] theorem State.pass_lines (s : State) : (s.pass).lines = Table.map Line.followed s.lines := rfl
@[simp] theorem State.pass_interlocks (s : State) : (s.pass).interlocks = s.interlocks := rfl
@[simp] theorem State.pass_groups (s : State) : (s.pass).groups = s.groups := rfl
@[simp] theorem State.pass_pendingList (s : State) : (s.pass).pendingList = s.pendingList := rfl
@[simp] theorem State.pass_sessions (s : State) : (s.pass).sessions = s.sessions := rfl
@[simp] theorem State.pass_store (s : State) : (s.pass).store = s.store := rfl
@[simp] theorem State.pass_slots (s : State) : (s.pass).slots = s.slots := rfl
@[simp] theorem State.pass_wakeWatches (s : State) : (s.pass).wakeWatches = s.wakeWatches := rfl
@[simp] theorem State.pass_wakeOut (s : State) : (s.pass).wakeOut = s.wakeOut := rfl
@[simp] theorem State.pass_attention (s : State) : (s.pass).attention = s.attention := rfl
@[simp] theorem State.pass_presence (s : State) : (s.pass).presence = s.presence := rfl
@[simp] theorem State.pass_loader (s : State) : (s.pass).loader = s.loader := rfl
@[simp] theorem State.pass_ports (s : State) : (s.pass).ports = s.ports := rfl
@[simp] theorem State.pass_flash (s : State) : (s.pass).flash = s.flash := rfl
@[simp] theorem State.pass_choices (s : State) : (s.pass).choices = s.choices := rfl
@[simp] theorem State.pass_pending (s : State) : (s.pass).pending = s.pending := rfl

/-! ### Reading a table after its own update -/

theorem Table.get_set {α : Type} {n : Nat} (t : Vector α n) (i j : Fin n) (x : α) :
    (t.set i x).get j = if j = i then x else t.get j := by
  show (t.set i x)[j.val] = _
  rw [Vector.getElem_set]
  by_cases h : j = i
  · subst h; simp
  · have h' : i.val ≠ j.val := fun e => h (Fin.ext e.symm)
    rw [if_neg h', if_neg h]; rfl

theorem Table.get_map {α β : Type} {n : Nat} (f : α → β) (t : Vector α n) (i : Fin n) :
    (Table.map f t).get i = f (t.get i) := by
  show (Vector.ofFn _)[i.val] = _
  simp

theorem Table.get_ofFn {α : Type} {n : Nat} (f : Fin n → α) (i : Fin n) : (Vector.ofFn f).get i = f i := by
  show (Vector.ofFn _)[i.val] = _
  simp

theorem Table.get_replicate {α : Type} {n : Nat} (x : α) (i : Fin n) : (Vector.replicate n x).get i = x := by
  show (Vector.replicate n x)[i.val] = _
  simp

theorem State.line_setLine (s : State) (l m : LineId) (x : Line) :
    (s.setLine l x).line m = if m = l then x else s.line m := Table.get_set s.lines l m x

theorem State.line_modifyLine (s : State) (l m : LineId) (f : Line → Line) :
    (s.modifyLine l f).line m = if m = l then f (s.line l) else s.line m := Table.get_set s.lines l m _

/-- R1: a microsecond that passes changes nothing of a line but the level of its keeper. -/
theorem State.line_pass (s : State) (l : LineId) : (s.pass).line l = (s.line l).followed := Table.get_map _ _ _

theorem State.ruleAt_setRule (s : State) (k j : RuleSlot) (x : InterlockSlot) :
    (s.setRule k x).ruleAt j = if j = k then x else s.ruleAt j := Table.get_set s.interlocks k j x

theorem State.session_setSession (s : State) (n m : Port) (x : Session) :
    (s.setSession n x).session m = if m = n then x else s.session m := Table.get_set s.sessions n m x

theorem State.session_modifyLive (s : State) (n m : Port) (f : Live → Live) :
    (s.modifyLive n f).session m =
      if m = n then { s.session n with live := (s.live n).map f } else s.session m := Table.get_set s.sessions n m _

theorem State.live_modifyLive (s : State) (n m : Port) (f : Live → Live) :
    (s.modifyLive n f).live m = if m = n then (s.live n).map f else s.live m := by
  unfold State.live
  rw [State.session_modifyLive]
  by_cases h : m = n
  · rw [if_pos h, if_pos h]; rfl
  · rw [if_neg h, if_neg h]

theorem State.isOpen_modifyLive (s : State) (n m : Port) (f : Live → Live) :
    (s.modifyLive n f).isOpen m = s.isOpen m := by
  unfold State.isOpen
  rw [State.live_modifyLive]
  by_cases h : m = n
  · subst h; simp
  · rw [if_neg h]

theorem State.run_setRun (s : State) (k j : SlotId) (r : Option Run) :
    (s.setRun k r).run j = if j = k then r else s.run j := Table.get_set s.slots k j r

theorem State.sequence_setSequence (s : State) (q p : SeqNumber) (x : Option Sequence) :
    (s.setSequence q x).sequence p = if p = q then x else s.sequence p := Table.get_set s.store q p x

theorem State.port_setPort (s : State) (n m : Port) (x : PortRecord) :
    (s.setPort n x).port m = if m = n then x else s.port m := Table.get_set s.ports n m x

theorem State.port_modifyPort (s : State) (n m : Port) (f : PortRecord → PortRecord) :
    (s.modifyPort n f).port m = if m = n then f (s.port n) else s.port m := Table.get_set s.ports n m _

end Sys2Proof.Machine
end

