-- ==== Sys2Proof/Laws/Request.lean ====
section
/-! SUPPORT. Taking a request and the common checks, once for every request: what `serve` and `checked` can do, for proofs
to cite in place of unfolding them. -/

namespace Sys2Proof.Machine

/-! ### serve -/

/-- A frame on a port that does not accept one changes nothing. -/
theorem State.serve_notAccepted {s : State} {h : Header} (length : Nat) (judge : State → Verdict)
    (hs : s.accepts h.port = false) : s.serve h length judge = s := by
  unfold State.serve; simp [hs]

/-- R173: a frame while a request is in process is ignored. -/
theorem State.serve_inProcess {s : State} {h : Header} (length : Nat) (judge : State → Verdict)
    (hs : s.accepts h.port = true) (hp : s.inProcess h.port = true) :
    s.serve h length judge = s.ignoreFrame h.port := by
  unfold State.serve; simp [hs, hp]

/-- R172: any other frame is taken, decided and answered. -/
theorem State.serve_taken {s : State} {h : Header} (length : Nat) (judge : State → Verdict)
    (hs : s.accepts h.port = true) (hp : s.inProcess h.port = false) :
    s.serve h length judge =
      (judge (s.takeFrame h.port (7 + length) (some h.seq))).settle h (s.port h.port).response.isSome := by
  unfold State.serve; simp [hs, hp]

@[simp] theorem Verdict.settle_done (t : State) (r : Reply) (h : Header) (d : Bool) :
    (Verdict.done t r).settle h d = t.place h.port h.seq r d false := rfl

/-! ### What taking a frame leaves for the checks to read -/

@[simp] theorem State.takeFrame_partState (s : State) (n : Port) (k : Nat) (q : Option Byte) :
    (s.takeFrame n k q).partState = s.partState := rfl

@[simp] theorem State.takeFrame_session (s : State) (n m : Port) (k : Nat) (q : Option Byte) :
    (s.takeFrame n k q).session m = s.session m := rfl

@[simp] theorem State.takeFrame_isOpen (s : State) (n m : Port) (k : Nat) (q : Option Byte) :
    (s.takeFrame n k q).isOpen m = s.isOpen m := rfl

@[simp] theorem State.takeFrame_tag (s : State) (n m : Port) (k : Nat) (q : Option Byte) :
    (s.takeFrame n k q).tag m = s.tag m := rfl

@[simp] theorem State.takeFrame_line (s : State) (n : Port) (k : Nat) (q : Option Byte) (l : LineId) :
    (s.takeFrame n k q).line l = s.line l := rfl

@[simp] theorem State.keepalive_partState (s : State) (n : Port) : (s.keepalive n).partState = s.partState := rfl

@[simp] theorem State.keepalive_line (s : State) (n : Port) (l : LineId) : (s.keepalive n).line l = s.line l := rfl

/-- A keepalive leaves every right as it is. -/
theorem State.keepalive_has (s : State) (n m : Port) (right : Right) :
    ((s.keepalive n).session m).has right = (s.session m).has right := by
  unfold State.keepalive
  rw [State.session_modifyLive]
  by_cases hm : m = n
  · subst hm; rw [if_pos rfl]; cases right <;> rfl
  · rw [if_neg hm]

@[simp] theorem State.keepalive_isOpen (s : State) (n m : Port) : (s.keepalive n).isOpen m = s.isOpen m :=
  State.isOpen_modifyLive s n m _

/-! ### authorise and checked (R180) -/

theorem authorise_noRight {α : Type} {h : Header} {right : Right} {s : State} (args : Option α)
    (body : α → State → Verdict) (hr : (s.session h.port).has right = false) :
    authorise h right args body s = .done s (Reply.bare .noRight) := by
  unfold authorise; simp [hr]

theorem authorise_badArgument {α : Type} {h : Header} {right : Right} {s : State} (body : α → State → Verdict)
    (hr : (s.session h.port).has right = true) :
    authorise h right none body s = .done s (Reply.bare .badArgument) := by
  unfold authorise; simp [hr]

theorem authorise_body {α : Type} {h : Header} {right : Right} {s : State} (a : α) (body : α → State → Verdict)
    (hr : (s.session h.port).has right = true) : authorise h right (some a) body s = body a s := by
  unfold authorise; simp [hr]

theorem checked_refusedState {α : Type} {h : Header} {service : Service} {s : State} {o : ReqOutcome}
    (rule : SessionRule) (right : Right) (args : Option α) (body : α → State → Verdict)
    (hs : service.refusal s.partState = some o) :
    checked h service rule right args body s = .done s (Reply.bare o) := by
  unfold checked; simp [hs]

theorem checked_noSession {α : Type} {h : Header} {service : Service} {s : State} (right : Right) (args : Option α)
    (body : α → State → Verdict) (hs : service.refusal s.partState = none) (ho : s.isOpen h.port = false) :
    checked h service .required right args body s = .done s (Reply.bare .noSession) := by
  unfold checked; simp [hs, ho]

theorem checked_staleSession {α : Type} {h : Header} {service : Service} {s : State} (right : Right) (args : Option α)
    (body : α → State → Verdict) (hs : service.refusal s.partState = none) (ho : s.isOpen h.port = true)
    (ht : h.tag ≠ s.tag h.port) :
    checked h service .required right args body s = .done s (Reply.bare .staleSession) := by
  unfold checked; simp [hs, ho, ht]

/-- R93: a request that passes the session and tag checks is a keepalive before its rights are looked at. -/
theorem checked_required {α : Type} {h : Header} {service : Service} {s : State} (right : Right) (args : Option α)
    (body : α → State → Verdict) (hs : service.refusal s.partState = none) (ho : s.isOpen h.port = true)
    (ht : h.tag = s.tag h.port) :
    checked h service .required right args body s = authorise h right args body (s.keepalive h.port) := by
  unfold checked; simp [hs, ho, ht]

theorem checked_exempt {α : Type} {h : Header} {service : Service} {s : State} (right : Right) (args : Option α)
    (body : α → State → Verdict) (hs : service.refusal s.partState = none) :
    checked h service .exempt right args body s = authorise h right args body s := by
  unfold checked; simp [hs]

theorem checked_exemptKeepalive {α : Type} {h : Header} {service : Service} {s : State} (right : Right)
    (args : Option α) (body : α → State → Verdict) (hs : service.refusal s.partState = none) :
    checked h service .exemptKeepalive right args body s =
      authorise h right args body (if s.isOpen h.port ∧ h.tag = s.tag h.port then s.keepalive h.port else s) := by
  unfold checked; simp [hs]

/-- The state, the session, the tag and the right that a request needs are all there. -/
theorem checked_passes {α : Type} {h : Header} {service : Service} {right : Right} {s : State} (a : α)
    (body : α → State → Verdict) (hs : service.refusal s.partState = none) (ho : s.isOpen h.port = true)
    (ht : h.tag = s.tag h.port) (hr : (s.session h.port).has right = true) :
    checked h service .required right (some a) body s = body a (s.keepalive h.port) := by
  rw [checked_required right (some a) body hs ho ht]
  exact authorise_body a body (by rw [State.keepalive_has]; exact hr)

end Sys2Proof.Machine
end

