-- ==== Sys2Proof/Laws/Lines.lean ====
section
/-! SUPPORT. The operations on lines: which fields of State each can change, that each leaves the other lines alone, and
what it writes into its own. -/

namespace Sys2Proof.Machine

/-- Only the lines and the interlock table differ. -/
def State.SameButLines (s t : State) : Prop := t = { s with lines := t.lines, interlocks := t.interlocks }

theorem State.SameButLines.refl (s : State) : s.SameButLines s := rfl

theorem State.SameButLines.trans {s t u : State} (h : s.SameButLines t) (k : t.SameButLines u) : s.SameButLines u := by
  unfold State.SameButLines at *
  rw [k, h]

theorem State.setLine_same (s : State) (l : LineId) (x : Line) : s.SameButLines (s.setLine l x) := rfl

theorem State.modifyLine_same (s : State) (l : LineId) (f : Line → Line) : s.SameButLines (s.modifyLine l f) := rfl

theorem State.settleReserved_same (s : State) : s.SameButLines s.settleReserved := by
  unfold State.SameButLines State.settleReserved; rfl

@[simp] theorem State.line_settleReserved (s : State) (m : LineId) : s.settleReserved.line m = s.line m := by
  unfold State.line; rw [State.settleReserved_lines]

theorem State.enterChecked_same (s : State) (l : LineId) : s.SameButLines (s.enterChecked l) := by
  unfold State.enterChecked
  by_cases h : (s.line l).state = .held ∧ (s.line l).drive.checked = true
  · rw [if_pos h]; rfl
  · rw [if_neg h]; rfl

theorem State.line_enterChecked_other (s : State) {l m : LineId} (h : m ≠ l) :
    (s.enterChecked l).line m = s.line m := by
  unfold State.enterChecked
  by_cases hc : (s.line l).state = .held ∧ (s.line l).drive.checked = true
  · rw [if_pos hc, State.line_setLine, if_neg h]
  · rw [if_neg hc]

theorem State.abandon_same (s : State) (l : LineId) : s.SameButLines (s.abandon l) := by
  unfold State.abandon
  cases (s.line l).move with
  | none => rfl
  | some m => exact (State.modifyLine_same s l _).trans (State.settleReserved_same _)

theorem State.line_abandon (s : State) (l m : LineId) :
    (s.abandon l).line m = if m = l then { s.line l with move := none } else s.line m := by
  unfold State.abandon
  cases hm : (s.line l).move with
  | none =>
    by_cases h : m = l
    · subst h; rw [if_pos rfl]; show s.line m = _; rw [← hm]
    · rw [if_neg h]
  | some x => simp only [State.line_settleReserved, State.line_modifyLine]

/-- A line with no move has none to abandon. -/
theorem State.abandon_none {s : State} {l : LineId} (h : (s.line l).move = none) : s.abandon l = s := by
  unfold State.abandon; rw [h]

@[simp] theorem State.abandon_lineTime (s : State) (l : LineId) : (s.abandon l).lineTime = s.lineTime := by
  have h := State.abandon_same s l
  unfold State.SameButLines at h
  rw [h]

/-- R1: a command to the drive that the pad has changes nothing. -/
theorem Line.command_present (ln : Line) (now : LineTime) : ln.command ln.drive now = ln := by
  unfold Line.command; rw [if_pos rfl]

/-- R1: the pad enters a KEEP drive with a strong drive of its level, at that line time. -/
theorem Line.command_keep {ln : Line} {level : Level} (now : LineTime) (h : ln.drive ≠ .keep level) :
    ln.command (.keep level) now =
      { ln with drive := .keep level, keeper := some { level := level, drivenAt := now } } := by
  unfold Line.command Drive.entryLevel; rw [if_neg h]; simp only [if_neg h, Option.map_some]

/-- R1: a keeper that follows its pad stays present, or absent. -/
@[simp] theorem Line.followed_keeper_isSome (ln : Line) : ln.followed.keeper.isSome = ln.keeper.isSome := by
  unfold Line.followed; rw [Option.isSome_map]

/-- R1: a keeper that follows its pad changes no other field of the line. -/
theorem Line.followed_rest (ln : Line) : ln.followed = { ln with keeper := ln.followed.keeper } := rfl

/-- R1: the keeper is present exactly while the pad is in KEEP, whatever it is commanded to. -/
theorem Line.command_keeper {ln : Line} (d : Drive) (now : LineTime)
    (h : ln.keeper.isSome = true ↔ ln.drive = .keep false ∨ ln.drive = .keep true) :
    (ln.command d now).keeper.isSome = true ↔ d = .keep false ∨ d = .keep true := by
  by_cases hd : ln.drive = d
  · subst hd; rw [Line.command_present]; exact h
  · unfold Line.command Drive.entryLevel
    cases d with
    | keep l => cases l <;> simp [hd]
    | float => simp [hd]
    | sink l => simp [hd]
    | drive l => simp [hd]

theorem State.beginMove_same (s : State) (l : LineId) (k : MoveKind) (st : Stages) :
    s.SameButLines (s.beginMove l k st) := rfl

theorem State.line_beginMove (s : State) (l m : LineId) (k : MoveKind) (st : Stages) :
    (s.beginMove l k st).line m =
      if m = l then
        { (s.line l).command st.first s.lineTime with
          readback := .off
          move := some { kind := k, stages := st, index := .first, deadline := s.afterUs (s.line l).static.settle,
                         origin := some (s.line l).drive } }
      else s.line m := by
  unfold State.beginMove; rw [State.line_modifyLine]

theorem State.startMove_same (s : State) (l : LineId) (k : MoveKind) (t : Drive) :
    s.SameButLines (s.startMove l k t) := by
  unfold State.startMove
  simp only []
  by_cases h : k = .ordinary ∧ t = ((s.abandon l).line l).drive
  · rw [if_pos h]; exact State.abandon_same s l
  · rw [if_neg h]; exact (State.abandon_same s l).trans (State.beginMove_same _ l k _)

theorem State.line_startMove_other (s : State) {l m : LineId} (k : MoveKind) (t : Drive) (h : m ≠ l) :
    (s.startMove l k t).line m = s.line m := by
  unfold State.startMove
  simp only []
  by_cases hc : k = .ordinary ∧ t = ((s.abandon l).line l).drive
  · rw [if_pos hc, State.line_abandon, if_neg h]
  · rw [if_neg hc, State.line_beginMove, if_neg h, State.line_abandon, if_neg h]

/-- R5, R6: a release move always begins, from the drive that the pad has. -/
theorem State.line_startMove_release (s : State) (l : LineId) (t : Drive) :
    (s.startMove l .release t).line l =
      { (s.line l).command ((s.line l).drive.stagesTo t).first s.lineTime with
        readback := .off
        move := some { kind := .release, stages := (s.line l).drive.stagesTo t, index := .first,
                       deadline := s.afterUs (s.line l).static.settle,
                       origin := some (s.line l).drive } } := by
  unfold State.startMove
  simp only [reduceCtorEq, false_and, if_false, State.line_beginMove, State.line_abandon, if_true, State.abandon_lineTime,
    State.afterUs]
  rfl

theorem State.driveTo_same (s : State) (l : LineId) (d : Drive) : s.SameButLines (s.driveTo l d) := by
  unfold State.driveTo
  by_cases h : (s.line l).drive = d
  · rw [if_pos h]; rfl
  · rw [if_neg h]; exact (State.startMove_same s l .ordinary d).trans (State.modifyLine_same _ l _)

theorem State.line_driveTo_other (s : State) {l m : LineId} (d : Drive) (h : m ≠ l) :
    (s.driveTo l d).line m = s.line m := by
  unfold State.driveTo
  by_cases hd : (s.line l).drive = d
  · rw [if_pos hd]
  · rw [if_neg hd, State.line_modifyLine, if_neg h, State.line_startMove_other s _ _ h]

theorem State.beginRelease_same (s : State) (l : LineId) (r : FreeReason) (t : Drive) :
    s.SameButLines (s.beginRelease l r t) := by
  unfold State.beginRelease; exact (State.modifyLine_same s l _).trans (State.startMove_same _ l .release t)

theorem State.line_beginRelease_other (s : State) {l m : LineId} (r : FreeReason) (t : Drive) (h : m ≠ l) :
    (s.beginRelease l r t).line m = s.line m := by
  unfold State.beginRelease; rw [State.line_startMove_other _ _ _ h, State.line_modifyLine, if_neg h]

theorem State.floatLine_same (s : State) (l : LineId) : s.SameButLines (State.floatLine l s) := by
  unfold State.floatLine; exact (State.modifyLine_same s l _).trans (State.startMove_same _ l .release .float)

theorem State.line_floatLine_other (s : State) {l m : LineId} (h : m ≠ l) :
    (State.floatLine l s).line m = s.line m := by
  unfold State.floatLine; rw [State.line_startMove_other _ _ _ h, State.line_modifyLine, if_neg h]

theorem State.grantLine_same (s : State) (n : Port) (term : Option Nat) (l : LineId) :
    s.SameButLines (State.grantLine n term l s) := by
  unfold State.grantLine; exact (State.modifyLine_same s l _).trans (State.enterChecked_same _ l)

theorem State.line_grantLine_other (s : State) (n : Port) (term : Option Nat) {l m : LineId} (h : m ≠ l) :
    (State.grantLine n term l s).line m = s.line m := by
  unfold State.grantLine; rw [State.line_enterChecked_other _ h, State.line_modifyLine, if_neg h]

/-! ### The same operation over a list of lines -/

theorem State.forLines_same {op : LineId → State → State} (hop : ∀ l (s : State), s.SameButLines (op l s)) :
    ∀ (ls : List LineId) (s : State), s.SameButLines (State.forLines op ls s)
  | [], s => State.SameButLines.refl s
  | l :: ls, s => (hop l s).trans (State.forLines_same hop ls (op l s))

theorem State.line_forLines_other {op : LineId → State → State}
    (hop : ∀ l m (s : State), m ≠ l → (op l s).line m = s.line m) :
    ∀ (ls : List LineId) (s : State) (m : LineId), m ∉ ls → (State.forLines op ls s).line m = s.line m
  | [], _, _, _ => rfl
  | l :: ls, s, m, h => by
    rw [State.forLines, State.line_forLines_other hop ls (op l s) m (fun hm => h (List.mem_cons_of_mem l hm))]
    exact hop l m s (fun e => h (e ▸ List.mem_cons_self))

theorem State.driveAll_same : ∀ (es : List (LineId × Drive)) (s t : State), s.driveAll es = .ok t → s.SameButLines t
  | [], s, t, h => by
    injection h with h; subst h; exact State.SameButLines.refl s
  | (l, d) :: es, s, t, h => by
    unfold State.driveAll at h
    cases ha : s.admission l d with
    | some k => rw [ha] at h; cases h
    | none => rw [ha] at h; exact (State.driveTo_same s l d).trans (State.driveAll_same es _ t h)

theorem State.line_driveAll_other : ∀ (es : List (LineId × Drive)) (s t : State) (m : LineId),
    s.driveAll es = .ok t → m ∉ es.map (·.1) → t.line m = s.line m
  | [], s, t, m, h, _ => by
    injection h with h; subst h; rfl
  | (l, d) :: es, s, t, m, h, hm => by
    unfold State.driveAll at h
    cases ha : s.admission l d with
    | some k => rw [ha] at h; cases h
    | none =>
      rw [ha] at h
      simp only [List.map_cons, List.mem_cons, not_or] at hm
      rw [State.line_driveAll_other es _ t m h hm.2, State.line_driveTo_other s d hm.1]

end Sys2Proof.Machine
end

