-- ==== Sys2Proof/Laws/Memory.lean ====
section
/-! SUPPORT. The flash bytes: reading after a write, and every memory operation keeps the canonical form. -/

namespace Sys2Proof.Machine

/-! ### The canonical form from a lowest address on -/

theorem Memory.wfFrom_cons (low a : Nat) (v : Byte) (m : List Host.Cell) :
    Memory.wfFrom low ((a, v) :: m) = true ↔ low ≤ a ∧ v ≠ erasedByte ∧ Memory.wfFrom (a + 1) m = true := by
  simp [Memory.wfFrom, and_assoc]

theorem Memory.wfFrom_mono {low low' : Nat} (h : low' ≤ low) :
    ∀ m : List Host.Cell, Memory.wfFrom low m = true → Memory.wfFrom low' m = true
  | [], _ => rfl
  | (a, v) :: m, hm => by
    rw [Memory.wfFrom_cons] at hm ⊢
    exact ⟨le_trans h hm.1, hm.2⟩

theorem Memory.write_wfFrom {low x : Nat} (v : Byte) (hx : low ≤ x) :
    ∀ m : List Host.Cell, Memory.wfFrom low m = true → Memory.wfFrom low (Memory.write m x v) = true
  | [], _ => by
    unfold Memory.write
    by_cases hv : v = erasedByte
    · rw [if_pos hv]; rfl
    · rw [if_neg hv, Memory.wfFrom_cons]; exact ⟨hx, hv, rfl⟩
  | (a, w) :: m, hm => by
    obtain ⟨ha, hw, hrest⟩ := (Memory.wfFrom_cons low a w m).1 hm
    unfold Memory.write
    by_cases hlt : x < a
    · rw [if_pos hlt]
      by_cases hv : v = erasedByte
      · rw [if_pos hv]; exact hm
      · rw [if_neg hv, Memory.wfFrom_cons, Memory.wfFrom_cons]; exact ⟨hx, hv, hlt, hw, hrest⟩
    · rw [if_neg hlt]
      by_cases heq : x = a
      · rw [if_pos heq]
        by_cases hv : v = erasedByte
        · rw [if_pos hv]; exact Memory.wfFrom_mono (by omega) m hrest
        · rw [if_neg hv, Memory.wfFrom_cons]; exact ⟨hx, hv, heq ▸ hrest⟩
      · rw [if_neg heq, Memory.wfFrom_cons]
        exact ⟨ha, hw, Memory.write_wfFrom v (by omega) m hrest⟩

theorem Memory.filter_wfFrom (p : Host.Cell → Bool) {low : Nat} :
    ∀ m : List Host.Cell, Memory.wfFrom low m = true → Memory.wfFrom low (m.filter p) = true
  | [], _ => rfl
  | (a, v) :: m, hm => by
    obtain ⟨ha, hv, hrest⟩ := (Memory.wfFrom_cons low a v m).1 hm
    by_cases hp : p (a, v) = true
    · rw [List.filter_cons_of_pos hp, Memory.wfFrom_cons]
      exact ⟨ha, hv, Memory.filter_wfFrom p m hrest⟩
    · rw [List.filter_cons_of_neg hp]
      exact Memory.wfFrom_mono (by omega) _ (Memory.filter_wfFrom p m hrest)

/-! ### Every operation keeps the form -/

theorem Memory.write_wf {m : List Host.Cell} (x : Nat) (v : Byte) (h : Memory.wf m = true) :
    Memory.wf (Memory.write m x v) = true := Memory.write_wfFrom v (Nat.zero_le x) m h

theorem Memory.program_wf : ∀ (data : List Byte) (m : List Host.Cell) (a : Nat), Memory.wf m = true →
    Memory.wf (Memory.program m a data) = true
  | [], _, _, h => h
  | _ :: vs, _, a, h => Memory.program_wf vs _ (a + 1) (Memory.write_wf a _ h)

theorem Memory.eraseSector_wf {m : List Host.Cell} (a : Nat) (h : Memory.wf m = true) :
    Memory.wf (Memory.eraseSector m a) = true := Memory.filter_wfFrom _ m h

theorem FlashCommand.run_wf (c : FlashCommand) (st : Bool × List Host.Cell) (h : Memory.wf st.2 = true) :
    Memory.wf (c.run st).2 = true := by
  obtain ⟨enabled, m⟩ := st
  cases c with
  | read a n => exact h
  | writeEnable => exact h
  | readStatus => exact h
  | pageProgram a data =>
    cases enabled
    · exact h
    · exact Memory.program_wf data m a h
  | sectorErase a =>
    cases enabled
    · exact h
    · exact Memory.eraseSector_wf a h

theorem foldCommands_wf : ∀ (cs : List FlashCommand) (st : Bool × List Host.Cell), Memory.wf st.2 = true →
    Memory.wf (cs.foldl (fun st c => c.run st) st).2 = true
  | [], _, h => h
  | c :: cs, st, h => foldCommands_wf cs (c.run st) (c.run_wf st h)

theorem runCommands_wf (cs : List FlashCommand) {m : List Host.Cell} (h : Memory.wf m = true) :
    Memory.wf (runCommands cs m) = true := foldCommands_wf cs (false, m) h

theorem foldWrites_wf (base : Nat) : ∀ (cells : FlashCells) (m : List Host.Cell), Memory.wf m = true →
    Memory.wf (cells.foldl (fun m c => Memory.write m (base + c.1) c.2) m) = true
  | [], _, h => h
  | c :: cs, _, h => foldWrites_wf base cs _ (Memory.write_wf (base + c.1) c.2 h)

theorem Memory.leave_wf {m : List Host.Cell} (slot : FlashSlot) (allowed : Nat → Bool) (left : FlashCells)
    (h : Memory.wf m = true) : Memory.wf (Memory.leave m slot allowed left) = true := foldWrites_wf slot.base _ m h

theorem reset_flash_wf : Memory.wf State.reset.flash = true := rfl

/-! ### Reading -/

/-- A byte of a canonical memory below its lowest address reads as erased. -/
theorem Memory.read_below {low x : Nat} (hx : x < low) :
    ∀ m : List Host.Cell, Memory.wfFrom low m = true → Memory.read m x = erasedByte
  | [], _ => rfl
  | (a, v) :: m, h => by
    obtain ⟨ha, _, hrest⟩ := (Memory.wfFrom_cons low a v m).1 h
    unfold Memory.read
    rw [if_neg (show ¬a = x by omega)]
    exact Memory.read_below (show x < a + 1 by omega) m hrest

theorem Memory.read_write_from {low : Nat} (x y : Nat) (v : Byte) :
    ∀ m : List Host.Cell, Memory.wfFrom low m = true →
      Memory.read (Memory.write m x v) y = if y = x then v else Memory.read m y
  | [], _ => by
    unfold Memory.write
    by_cases hv : v = erasedByte
    · rw [if_pos hv, hv]; split <;> rfl
    · rw [if_neg hv]
      by_cases hy : y = x
      · subst hy; simp [Memory.read]
      · simp [Memory.read, hy, Ne.symm hy]
  | (a, w) :: m, h => by
    obtain ⟨_, _, hrest⟩ := (Memory.wfFrom_cons low a w m).1 h
    have below : ∀ z, z ≤ a → Memory.read m z = erasedByte := fun z hz => Memory.read_below (by omega) m hrest
    unfold Memory.write
    by_cases hlt : x < a
    · rw [if_pos hlt]
      by_cases hv : v = erasedByte
      · rw [if_pos hv, hv]
        by_cases hy : y = x
        · rw [if_pos hy, hy]
          simp only [Memory.read]
          rw [if_neg (show ¬a = x by omega)]
          exact below x (by omega)
        · rw [if_neg hy]
      · rw [if_neg hv]
        by_cases hy : y = x
        · subst hy; simp [Memory.read]
        · rw [if_neg hy]
          conv_lhs => rw [Memory.read]
          rw [if_neg (fun e => hy e.symm)]
    · rw [if_neg hlt]
      by_cases heq : x = a
      · rw [if_pos heq]
        subst heq
        by_cases hv : v = erasedByte
        · rw [if_pos hv, hv]
          by_cases hy : y = x
          · rw [if_pos hy, hy]; exact below x (le_refl x)
          · rw [if_neg hy]; simp only [Memory.read]; rw [if_neg (fun e => hy e.symm)]
        · rw [if_neg hv]
          by_cases hy : y = x
          · subst hy; simp [Memory.read]
          · simp only [Memory.read]; rw [if_neg hy, if_neg (fun e => hy e.symm), if_neg (fun e => hy e.symm)]
      · rw [if_neg heq]
        simp only [Memory.read]
        rw [Memory.read_write_from x y v m hrest]
        by_cases ha : a = y
        · rw [if_pos ha, if_pos ha, if_neg (show ¬y = x by omega)]
        · rw [if_neg ha, if_neg ha]

/-- One byte read after one byte is written. -/
theorem Memory.read_write {m : List Host.Cell} (h : Memory.wf m = true) (x y : Nat) (v : Byte) :
    Memory.read (Memory.write m x v) y = if y = x then v else Memory.read m y := Memory.read_write_from x y v m h

end Sys2Proof.Machine
end

