-- ==== Sys2Proof/Laws/Profile.lean ====
section
/-! SUPPORT. What the Profile Loader's operations on a flash operation can do. -/

namespace Sys2Proof.Machine

/-- R161 to R163, log 10: when a time-out ends a flash operation, and which one. -/
theorem State.waitedOut_eq_some_iff (s : State) (sent : LineTime) (limit : Nat) (op : FlashOp) :
    s.waitedOut sent limit = some op ↔
      s.loader.flashOp = some op ∧ notBefore sent op.began = true ∧
        s.lineTime = sent + BitVec.ofNat 32 (limit * 1000) := by
  cases h : s.loader.flashOp with
  | none => simp [State.waitedOut, h]
  | some o =>
    simp only [State.waitedOut, h, Option.bind_some, Option.ite_none_right_eq_some, Option.some.injEq]
    constructor
    · rintro ⟨c, rfl⟩; exact ⟨rfl, c⟩
    · rintro ⟨rfl, c⟩; exact ⟨c, rfl⟩

end Sys2Proof.Machine
end

