-- ==== Sys2Proof/Tests/Slice0.lean ====
section
/-! SUPPORT. Small tests: the well-formedness check, the codings and the frame decoder on words written out from the
spec, and, for each statement with hypotheses, a state and operands that meet them. -/

namespace Sys2Proof.Tests

open Sys2Proof Sys2Proof.Machine

set_option Elab.async false
set_option synthInstance.maxSize 4000
set_option synthInstance.maxHeartbeats 400000
set_option maxRecDepth 20000

/-! ## The well-formedness check refuses an ill-formed term of each kind -/

def entry0 : RawSetEntry := { line := 0, drive := { mode := 3, level := 1 } }
def step0 : RawStep := { line := 0, drive := { mode := 3, level := 1 }, hold := 5 }
def hdr : Header := { port := 0, seq := 7, tag := 1 }

theorem test_wellFormed_refuses_long_lists :
    (Instr.setDrives hdr (List.replicate 81 entry0)).wellFormed = false ∧
    (Instr.setDrives hdr (List.replicate 80 entry0)).wellFormed = true ∧
    (Instr.storeSequence hdr 0 (List.replicate 48 step0)).wellFormed = false ∧
    (Instr.ack hdr (List.replicate 121 { kind := 1, index := 0 })).wellFormed = false ∧
    (Instr.profileWrite hdr 0 (List.replicate 239 0)).wellFormed = false ∧
    (Instr.badRequest hdr .unknownCode 241).wellFormed = false := by decide +kernel

theorem test_wellFormed_refuses_frames_that_do_not_agree :
    (Instr.badFrame 0 (some 1) .crc 6).wellFormed = false ∧ (Instr.badFrame 0 none .crc 7).wellFormed = false ∧
    (Instr.badFrame 0 (some 1) .crc 248).wellFormed = false ∧ (Instr.badFrame 0 (some 1) .length 4).wellFormed = false ∧
    (Instr.badFrame 0 none .short 0).wellFormed = false ∧ (Instr.badFrame 0 (some 1) .short 247).wellFormed = false ∧
    (Instr.badFrame 0 none .short 1).wellFormed = true ∧ (Instr.badFrame 0 (some 1) .crc 7).wellFormed = true := by decide

theorem test_wellFormed_refuses_cells_outside_the_slot :
    (Instr.resetLow [(4096, 0)]).wellFormed = false ∧ (Instr.resetRelease 0 [(4096, 0)]).wellFormed = false ∧
    (Instr.eraseEnd [(4096, 0)]).wellFormed = false ∧ (Instr.eraseTimeout ⟨0, [(4096, 0)]⟩).wellFormed = false ∧
    (Instr.writeEnd [(4096, 0)]).wellFormed = false ∧ (Instr.programTimeout ⟨0, [(4096, 0)]⟩).wellFormed = false ∧
    (Instr.commitEnd [(4096, 0)]).wellFormed = false ∧ (Instr.commitEnd [(4095, 0)]).wellFormed = true := by decide

/-! ## Codings and frames -/

/-- R170 and R149: the check values of the two CRCs over the characters 1 to 9. -/
theorem test_crc_check_values :
    crc16 [0x31, 0x32, 0x33, 0x34, 0x35, 0x36, 0x37, 0x38, 0x39] = 0x29B1 ∧
    crc32 [0x31, 0x32, 0x33, 0x34, 0x35, 0x36, 0x37, 0x38, 0x39] = 0xCBF43926 := by decide +kernel

/-- A SET frame written out byte by byte from R169 and R179: port 0, sequence 7, tag 1, code 13h, one entry. -/
theorem test_set_frame_is_read :
    (let bytes : List Byte := [0xA5, 0x07, 0x01, 0x13, 0x03, 0x05, 0x03, 0x01]
     judgeTransaction 0 false false (bytes ++ crcBytes (crc16 bytes)) =
       some (.setDrives hdr [{ line := 5, drive := { mode := 3, level := 1 } }])) ∧
    (let bytes : List Byte := [0xA5, 0x07, 0x01, 0x7F, 0x00]
     judgeTransaction 0 false false (bytes ++ crcBytes (crc16 bytes)) = some (.badRequest hdr .unknownCode 0)) ∧
    (let bytes : List Byte := [0xA5, 0x07, 0x01, 0x03, 0x01, 0x00]
     judgeTransaction 0 false false (bytes ++ crcBytes (crc16 bytes)) = some (.badRequest hdr .payloadLength 1)) := by
  decide +kernel

/-- An OPEN, a CLAIM and a PROFILE_READ payload, least significant byte first (R179, R182). -/
theorem test_argument_layouts :
    requestOf hdr true 0x01 [0xE8, 0x03, 0x02, 0x00] = some (some (.openSession hdr 1000 2 0 true)) ∧
    requestOf hdr true 0x10 [0x00, 0x05, 0x0A, 0x00, 0x01, 0x02, 0x03, 0x00, 0xFF, 0x00, 0x01] =
      some (some (.claim hdr { kind := 0, number := 5 } 10 0x00030201 { mode := 0xFF, level := 0 } 1)) ∧
    requestOf hdr true 0x38 [0x01, 0x00, 0x0F, 0x10] = some (some (.profileRead hdr 1 0x0F00 0x10)) := by
  decide +kernel

/-- The response frame of a READY response (R169), and the bytes of a NOTICES item (R179). -/
theorem test_response_bytes :
    (Response.frame { seq := 7, reply := Reply.of .notHolder (.line 5), discarded := true, ignored := false } true).take 6 =
      [0x01, 0x07, 0x1A, 0x05, 0x01, 0x05] ∧
    (Notice.bytes { kind := .agentLost, index := 2, urgent := false, content := .agentLost .keepalive 0x01020304 }) =
      [0x05, 0x02, 0x02, 0x04, 0x03, 0x02, 0x01, 0, 0, 0, 0] ∧
    (InterlockEntry.bytes { slot := 3, rule := { x := 1, a := true, y := 2, b := false }, status := .reserved,
                            origin := .runtime 2 }) = [3, 1, 1, 2, 0, 11] := by decide +kernel

/-- R4: the stages of a move from each kind of drive. -/
theorem test_stages :
    Drive.stagesTo .float (.drive true) = .two (.keep true) (.drive true) ∧
    Drive.stagesTo (.drive false) (.drive true) = .one (.drive true) ∧
    Drive.stagesTo (.keep true) (.drive true) = .one (.drive true) ∧
    Drive.stagesTo (.keep false) (.drive true) = .two (.keep true) (.drive true) ∧
    Drive.stagesTo (.drive true) .float = .two (.keep true) .float ∧
    Drive.stagesTo (.sink false) .float = .one .float ∧
    Drive.stagesTo (.drive true) (.sink false) = .one (.sink false) := by decide

/-! ## A small part to try commands on -/

/-- A line under a settling time of 10 µs, parked at FLOAT. -/
def line0 : Line :=
  { Line.atReset false with statics := some { pinned := false, settle := 10, fallback := .float,
                                              disposition := .present, defaultHeir := none, group := none } }

def heldLine : Line := { line0 with state := .held, holder := .agent 0, freeReason := none }

/-- A held line under a one-stage move to DRIVE 1 that ends at 10 µs. -/
def movingLine : Line :=
  { heldLine with state := .moving, drive := .drive true,
                  move := some { kind := .ordinary, stages := .one (.drive true), index := .first, deadline := 10,
                                 origin := some (.drive false) } }

def releasingLine : Line :=
  { line0 with state := .releasing, freeReason := some .released,
               move := some { kind := .release, stages := .one .float, index := .first, deadline := 10,
                              origin := some .float } }

def faultedLine : Line := { heldLine with fault := .readback, priorDrive := some (.drive true) }

def live0 : Live := Live.fresh 10 10000 2 .all

def session0 : Session :=
  { epoch := 1, lastEnd := .none, configure := true, priority := true, presenceUsed := false, live := some live0 }

/-- READY, with an OPEN session of epoch 1 on port 0 that holds both rights. -/
def ready : State :=
  { State.reset with
    lines := Vector.replicate 48 line0
    sessions := State.reset.sessions.set 0 session0
    loader := { Loader.atReset none with partState := .ready, loaded := some .a, generation := 5, spare := .b } }

/-- Line 5 of the part put into a record of its own. -/
def withLine (x : Line) : State := ready.setLine 5 x

def withLive (v : Live) : State := ready.setSession 0 { session0 with live := some v }

def at10 (s : State) : State := { s with lineTime := 10 }

def inProcess : PortRecord :=
  { PortRecord.atReset with request := some { seq := 9, discarded := false, ignored := false } }

def response0 : Response := { seq := 9, reply := Reply.bare .ok, discarded := false, ignored := false }

def rule56 : Rule := { x := 5, a := true, y := 6, b := true }

/-- Line 6 asserts 1, which line 5 may not do beside it. -/
def guarded (x : Line) : State :=
  ((withLine x).setLine 6 { heldLine with drive := .drive true }).setRule 0 (.rule rule56 .occupied .fixed)

def run0 (phase : RunPhase) : Run := { sequence := 2, agent := 0, step := 1, phase := phase }

def steps2 : List SeqStep :=
  [{ line := 5, drive := .drive true, hold := 3 }, { line := 5, drive := .float, hold := 3 }]

def sequence2 : Sequence := { origin := .runtime, steps := steps2 }

/-- Sequence 2 stored, its line held, and slot 0 in the run given. -/
def running (x : Line) (phase : RunPhase) : State :=
  ((withLine { x with binding := some 0 }).setSequence 2 (some sequence2)).setRun 0 (some (run0 phase))

/-! ## Every statement's hypotheses are met somewhere -/

theorem test_meets_EmptyQueueStepIsTheClock :
    (State.reset.pending = [] ∧ State.reset.resetLow = false ∧ State.reset.due = []) ∧
    ({ State.reset with resetLow := true } : State).pending = [] ∧
    (at10 (withLine { heldLine with term := some 10 })).due = [.termDeadline 5] ∧
    (at10 ((withLine { heldLine with term := some 10 }).setLine 7 releasingLine)).due =
      [.termDeadline 5, .stageEnd 7] := by decide +kernel

/-- What the checks of R180 give for a request in a state in which its port listens. -/
def refusalOf (i : Instr) (s : State) : Option (ReqOutcome × Bool) := (requestChecks i).bind fun c => c.refusal s

theorem test_meets_FirstFailingCheckGivesTheOutcome :
    ready.Listens 0 ∧ ready.Listens 1 ∧ State.reset.Listens 0 ∧
    refusalOf (.tick hdr) State.reset = some (.starting, false) ∧
    refusalOf (.setMask hdr 0) { ready with loader := { ready.loader with partState := .degraded } } =
      some (.degraded, false) ∧
    refusalOf (.tick { hdr with port := 1 }) ready = some (.noSession, false) ∧
    refusalOf (.tick { hdr with tag := 2 }) ready = some (.staleSession, false) ∧
    refusalOf (.restart hdr) (ready.setSession 0 { session0 with configure := false }) = some (.noRight, true) ∧
    refusalOf (.setMask hdr 3) ready = some (.badArgument, true) ∧
    refusalOf (.openSession hdr 9 1 0 true) ready = some (.badArgument, false) := by decide +kernel

theorem test_meets_RequestIsIgnoredWhileOneIsInProcess :
    (requestChecks (.tick hdr)).isSome = true ∧
    ((ready.setPort 0 inProcess).resetLow = false ∧ ((ready.setPort 0 inProcess).port 0).decoder = .idle ∧
      ((ready.setPort 0 inProcess).port 0).request.isSome = true) ∧
    ((ready.setPort 0 { PortRecord.atReset with decoder := .collect }).port 0).decoder ≠ .idle := by decide +kernel

theorem test_meets_BrokenAndIgnoredTransactions :
    ready.Listens 0 ∧ ready.resetLow = false ∧ ((ready.setPort 0 inProcess).port 0).decoder = .idle ∧
    ((ready.setPort 0 inProcess).port 0).request = some { seq := 9, discarded := false, ignored := false } := by
  decide +kernel

theorem test_meets_CollectFixesAndConsumesTheFrame :
    (ready.resetLow = false ∧ (ready.port 0).decoder = .idle ∧ (ready.port 0).response = none ∧
      (ready.port 0).request = none) ∧
    ((ready.setPort 0 inProcess).port 0).response = none ∧
    ((ready.setPort 0 { PortRecord.atReset with response := some response0 }).port 0).response = some response0 ∧
    (let p : PortRecord := { PortRecord.atReset with decoder := .collect, response := some response0,
                                                     shifting := some (.response response0 false) }
     ((ready.setPort 0 p).port 0).decoder = .collect ∧
       ((ready.setPort 0 p).port 0).shifting = some (.response response0 false)) ∧
    (ready.port 0).decoder ≠ .collect := by decide +kernel

theorem test_meets_RequestFrameReadsBack :
    (Instr.setDrives hdr (List.replicate 80 entry0)).wellFormed = true ∧
    (requestParts (.setDrives hdr (List.replicate 80 entry0))).isSome = true ∧
    (requestParts (.openSession hdr 10 1 0 true)).isSome = true := by decide +kernel

theorem test_meets_TransactionsAreClassified :
    240 < (241 : Byte).toNat ∧ (240 : Byte).toNat ≤ 240 ∧ ([] : List Byte).length < (0 : Byte).toNat + 2 ∧
    ([1, 2, 3] : List Byte).length < 4 ∧
    crcBytes (crc16 ([0xA5, 7, 1, 3, byteOf 0] ++ [])) ≠ [0, 0] ∧
    payloadAllowed (0x07 : Byte).toNat 0 = none ∧ payloadAllowed (0x3A : Byte).toNat 1 = some false ∧
    payloadAllowed (0x28 : Byte).toNat 236 = some true ∧ payloadAllowed (0x13 : Byte).toNat 240 = some true := by
  decide +kernel

theorem test_meets_OpenOpensOrReopens :
    ready.Listens 1 ∧ ready.partState ≠ .starting ∧ ready.isOpen 1 = false ∧ ready.isOpen 0 = true ∧ ready.Coherent ∧
    (openArgs 10 1 0).isSome = true ∧ (openArgs 10000 8 2).isSome = true ∧ openArgs 10001 8 2 = none ∧
    ((ready.setSession 0 { session0 with presenceUsed := true }).session 0).presenceUsed = true := by decide +kernel

/-- The hypotheses of CLOSE, TICK, STATUS, IDENTIFY and SET_MASK. -/
theorem test_meets_session_statements :
    ready.Hears hdr .exceptStarting .none ∧ ready.Hears hdr .readyOnly .none ∧ ready.Coherent ∧
    ready.live 0 = some live0 ∧ ((ready.heard hdr 1).live 0).isSome = true ∧ State.reset.Listens 0 := by
  decide +kernel

/-- R39, R40: a session end that an eligible heir inherits from, and one that none does. -/
theorem test_meets_SessionEnded :
    (let s := (withLine { movingLine with heir := some 1 }).setSession 1 session0
     s.isOpen 0 = true ∧ s.Inherits 0 5 1 ∧ (s.line 5).state = .moving ∧ s.Coherent) ∧
    (let s := withLine { heldLine with heir := some 1 }
     (s.line 5).holder = .agent 0 ∧ (∀ heir, ¬ s.Inherits 0 5 heir) ∧ s.Coherent) := by decide +kernel

theorem test_meets_PeriodDeadlineCountsAMiss :
    (let s : State := { ready with lineTime := 10000 }
     s.live 0 = some live0 ∧ live0.deadline = s.lineTime ∧ (s.port 0).request = none ∧ live0.misses + 1 < live0.limit ∧
       ((s.setPort 0 inProcess).port 0).request.isSome = true) ∧
    ((withLive { live0 with misses := 1 }).live 0).map (fun v => decide (v.limit ≤ v.misses + 1)) = some true ∧
    (withLive { live0 with misses := 1 }).Coherent := by decide +kernel

theorem test_meets_PresenceFallClearsThePort :
    (let s := ready.setSession 0 { session0 with presenceUsed := true }
     s.resetLow = false ∧ (s.session 0).presenceUsed = true ∧ s.partState = .ready ∧ s.isOpen 0 = true ∧ s.Coherent) ∧
    (let s := ready.setSession 1 { Session.atReset with presenceUsed := true }
     (s.session 1).presenceUsed = true ∧ s.isOpen 1 = false) ∧
    (let s := ready.setSession 0 { session0 with presenceUsed := true }
     let t : State := { s with loader := { s.loader with partState := .degraded } }
     t.partState = .degraded ∧ t.isOpen 0 = true ∧ t.Coherent) := by decide +kernel

def line5 : RawTarget := { kind := 0, number := 5 }
def noDrive : RawDrive := { mode := 0xFF, level := 0 }
def drive1 : RawDrive := { mode := 3, level := 1 }

/-- The outcome of driving a list of lines, as the slot and line that refuse it. -/
def refusedBy (e : Except (RuleSlot × LineId) State) : Option (RuleSlot × LineId) :=
  match e with
  | .error p => some p
  | .ok _ => none

theorem test_meets_ClaimOfFreeLinesIsGranted :
    ready.Hears hdr .readyOnly (claimRight 1) ∧ (claimArgs line5 0 0 noDrive 1).map (·.drive) = some none ∧
    (claimArgs line5 60000 600000 drive1 1).map (·.drive) = some (some (.drive true)) ∧
    ready.resolve (.line 5) = some (.line 5) ∧
    (∀ l ∈ (Target.line 5).lines, (ready.line l).static.pinned = false ∧ (ready.line l).holder ≠ .agent 0 ∧
      (ready.line l).state = .free) ∧
    refusedBy (((ready.heard hdr 11).grantLines 0 none [5]).driveAll (proposals [5] (.drive true))) = none ∧
    ((guarded line0).line 5).state = .free ∧ (guarded line0).Hears hdr .readyOnly .none ∧
    refusedBy ((((guarded line0).heard hdr 11).grantLines 0 none [5]).driveAll (proposals [5] (.drive true))) =
      some (0, 5) := by decide +kernel

theorem test_meets_ClaimWaitsOnATicket :
    (let s := withLine { heldLine with holder := .agent 1 }
     s.Hears hdr .readyOnly .none ∧ (s.line 5).static.pinned = false ∧ (s.line 5).holder ≠ .agent 0 ∧
       (s.line 5).state ≠ .free ∧ ((s.heard hdr 11).live 0).isSome = true) ∧
    (claimArgs line5 1 0 noDrive 0).map (·.patience) = some 1 ∧
    live0.tickets.get 0 = .idle ∧
    (∀ k, ({ live0 with tickets := Vector.replicate 4 (.waiting (.line 5)) } : Live).tickets.get k ≠ .idle) := by
  decide +kernel

theorem test_meets_ClaimIsRefused :
    (claimArgs line5 0 0 noDrive 0).map (·.patience) = some 0 ∧ ready.resolve (.group 11) = none ∧
    ((withLine { line0 with statics := some { line0.static with pinned := true } }).line 5).static.pinned = true ∧
    ((withLine heldLine).line 5).holder = .agent 0 ∧ ((withLine heldLine).line 5).static.pinned = false ∧
    ((withLine { heldLine with holder := .agent 1 }).line 5).holder = .agent 1 ∧
    (((withLine releasingLine).line 5).holder = .none ∧ ((withLine releasingLine).line 5).state ≠ .free) := by
  decide +kernel

theorem test_meets_CancelActsOnTheTicket :
    (3 : Byte).toNat = (3 : TicketId).val ∧
    (∀ t ∈ [Ticket.idle, .waiting (.line 5), .granted (.line 5) 1 .notAsked, .expired (.line 5) 1],
      let s := withLive (live0.setTicket 3 t)
      s.Hears hdr .readyOnly .none ∧ ((s.heard hdr 1).live 0).map (fun v => v.tickets.get 3) = some t) := by
  decide +kernel

def entry5 : Entry :=
  { agent := 0, ticket := 3, target := .line 5, urgency := .normal, arrival := 0, deadline := 10, term := none,
    drive := none }

theorem test_meets_PatienceDeadlineExpiresTheTicket :
    (let s := at10 { withLive (live0.setTicket 3 (.waiting (.line 5))) with pendingList := [entry5] }
     entry5 ∈ s.pendingList ∧ entry5.deadline = s.lineTime ∧ (s.live 0).isSome = true ∧
       ∀ d ∈ s.pendingList, d.agent = 0 → d.ticket = 3 → d = entry5) := by decide +kernel

theorem test_meets_RecordTestsRefuseInOrder :
    (setArgs [{ line := 5, drive := drive1 }]) = some [(5, .drive true)] ∧ targetArg line5 = some (.line 5) ∧
    extendArgs line5 600000 = some (.line 5, some 600000) ∧ extendArgs line5 600001 = none ∧
    ready.Hears hdr .readyOnly .none ∧ (ready.line 5).holder ≠ .agent 0 ∧
    (((withLine movingLine).line 5).holder = .agent 0 ∧ ((withLine movingLine).line 5).state = .moving) ∧
    (((withLine faultedLine).line 5).state ≠ .moving ∧ ((withLine faultedLine).line 5).fault ≠ .none) ∧
    (((running heldLine .stepping).line 5).fault = .none ∧ ((running heldLine .stepping).line 5).binding ≠ none) := by
  decide +kernel

/-- The hypotheses of SET, RELEASE, SET_HEIR and EXTEND, with a line that the requester holds. -/
theorem test_meets_line_request_statements :
    (withLine heldLine).Hears hdr .readyOnly .none ∧ ((withLine heldLine).line 5).holder = .agent 0 ∧
    ((withLine heldLine).line 5).state ≠ .moving ∧ ((withLine heldLine).line 5).fault = .none ∧
    ((withLine heldLine).line 5).binding = none ∧ (withLine heldLine).resolve (.line 5) = some (.line 5) ∧
    ((withLine heldLine).line 5).static.disposition = .present ∧
    refusedBy (((withLine heldLine).heard hdr 3).driveAll [(5, .drive true)]) = none ∧
    refusedBy (((guarded heldLine).heard hdr 3).driveAll [(5, .drive true)]) = some (0, 5) ∧
    (guarded heldLine).Hears hdr .readyOnly .none ∧
    (some (1 : Port) ≠ some hdr.port ∧ (2 : Byte).toNat = (2 : Port).val) := by decide +kernel

/-- A held line whose release goes to a fallback of DRIVE 1. -/
def falling : Line :=
  { heldLine with statics := some { line0.static with fallback := .drive true, disposition := .fallback } }

/-- The hypotheses of a RELEASE of a group whose lines fall back, one of them to a level that a rule forbids. -/
theorem test_meets_ReleaseStartsReleaseMoves :
    (let s := { (guarded falling).setLine 7 heldLine with groups := ready.groups.set 0 (some [5, 7]) }
     s.Hears hdr .readyOnly .none ∧ targetArg { kind := 1, number := 0 } = some (.group 0) ∧
       s.resolve (.group 0) = some (.group 0 [5, 7]) ∧ s.admission 5 (.drive true) = some 0 ∧
       (∀ l ∈ (Target.group 0 [5, 7]).lines, (s.line l).holder = .agent 0 ∧ (s.line l).state ≠ .moving ∧
         (s.line l).binding = none ∧ (s.line l).move = none)) ∧
    (withLine falling).admission 5 (.drive true) = none := by decide +kernel

theorem test_meets_ClearFaultRestoresThePriorDrive :
    (withLine faultedLine).Hears hdr .readyOnly .none ∧ ((withLine faultedLine).line 5).holder = .agent 0 ∧
    ((withLine faultedLine).line 5).priorDrive = some (.drive true) ∧
    ((withLine faultedLine).line 5).binding = none ∧ (withLine faultedLine).admission 5 (.drive true) = none ∧
    (guarded faultedLine).admission 5 (.drive true) = some 0 ∧
    ((running faultedLine .stepping).line 5).binding = some 0 ∧ ((withLine heldLine).line 5).fault = .none ∧
    (ready.line 5).holder ≠ .agent 0 := by decide +kernel

theorem test_meets_SnapshotAndInspectReadTheRecords :
    ready.Hears hdr .readyOnly .none ∧ (47 : Byte).toNat = (47 : LineId).val := by decide +kernel

theorem test_meets_ObservedLevelChangeReachesTheLine :
    (ready.resetLow = false ∧ (ready.line 5).observed ≠ true) ∧ (ready.line 5).observed = false ∧
    heldLine.drive ≠ .keep true ∧ ({ heldLine with drive := .sink true } : Line).pad = .highImpedance ∧
    (heldLine.command (.keep true) 3).keeper = some { level := true, drivenAt := 3 } := by decide +kernel

theorem test_meets_StageEndContinuesOrCompletesTheMove :
    (let s := at10 (withLine movingLine)
     (s.line 5).move.map (·.deadline) = some s.lineTime ∧ (s.line 5).state = .moving ∧ (s.line 5).termDue = false ∧
       (s.line 5).binding = none) ∧
    (let s := at10 (withLine { movingLine with term := some 5, termDue := true })
     (s.line 5).termDue = true ∧ (s.line 5).holder = .agent 0 ∧ (s.live 0).isSome = true) ∧
    (let m : Move := { kind := .ordinary, stages := .two (.keep true) (.drive true), index := .first, deadline := 10,
                       origin := some .float }
     ((at10 (withLine { movingLine with move := some m })).line 5).move = some m) := by decide +kernel

theorem test_meets_LineBecomesFreeAndTheListIsScanned :
    (let s := at10 { withLine releasingLine with pendingList := [entry5] }
     (s.line 5).move.map (·.deadline) = some s.lineTime ∧ (s.line 5).state = .releasing ∧
       s.pendingList = [entry5] ∧ entry5.target = .line 5 ∧ entry5.drive = none ∧ (s.live entry5.agent).isSome = true) ∧
    (let s := at10 { (withLine releasingLine).setLine 6 heldLine with pendingList := [{ entry5 with target := .line 6 }] }
     ∀ e ∈ s.pendingList, ∃ k ∈ e.target.lines, k ≠ 5 ∧ (s.line k).state ≠ .free) := by decide +kernel

/-- An entry for lines 5 and 7 with an initial drive of 1. -/
def entry57 : Entry := { entry5 with target := .group 0 [5, 7], drive := some (.drive true) }

/-- A scan that grants a group and drives it, and one that grants it and finds its drive refused. -/
theorem test_meets_a_scan_with_a_drive :
    (let s := { ready with pendingList := [entry57] }
     (∀ l ∈ entry57.target.lines, (s.line l).state = .free) ∧
       refusedBy ((s.grantLines 0 none [5, 7]).driveAll (proposals [5, 7] (.drive true))) = none) ∧
    (let s := { guarded line0 with pendingList := [entry57] }
     (∀ l ∈ entry57.target.lines, (s.line l).state = .free) ∧
       refusedBy ((s.grantLines 0 none [5, 7]).driveAll (proposals [5, 7] (.drive true))) = some (0, 5)) := by
  decide +kernel

theorem test_meets_ReadbackDeadlineFaultsTheLine :
    (let s := at10 (withLine { heldLine with drive := .drive true, readback := .counting 10 })
     (s.line 5).readback = .counting s.lineTime ∧ (s.line 5).binding = none) ∧
    (∀ p ∈ [RunPhase.stepping, .holding 20, .halting .aborted],
      let s := at10 (running { heldLine with readback := .counting 10 } p)
      (s.line 5).readback = .counting s.lineTime ∧ (s.line 5).binding = some 0 ∧ s.run 0 = some (run0 p)) := by
  decide +kernel

theorem test_meets_TermDeadlineEndsTheHolding :
    (let s := at10 (withLine { heldLine with term := some 10 })
     (s.line 5).term = some s.lineTime ∧ (s.line 5).termDue = false ∧ (s.line 5).state = .held ∧
       (s.line 5).holder = .agent 0 ∧ (s.live 0).isSome = true) ∧
    ((at10 (withLine { movingLine with term := some 10 })).line 5).state = .moving := by decide +kernel

theorem test_meets_AdmissionFollowsTheRules :
    ready.RulesHold ∧ (ready.line 5).move = none ∧ Drive.float.asserted = none ∧ Drive.float = (ready.line 5).drive := by
  decide +kernel

theorem test_meets_RequestsOnTheInterlockTable :
    ready.Hears hdr .readyOnly .configure ∧ ruleArgs 5 1 6 1 = some rule56 ∧ ruleArgs 5 1 5 1 = none ∧
    ready.ruleAt 0 = .empty ∧ rule56.matchedBy ready.assertion = false ∧
    (let s := (withLine { heldLine with drive := .drive true }).setLine 6 { heldLine with drive := .drive true }
     rule56.matchedBy s.assertion = true ∧ s.ruleAt 0 = .empty) ∧
    (∀ k, ({ ready with interlocks := Vector.replicate 32 (.rule rule56 .occupied .fixed) } : State).ruleAt k ≠ .empty) ∧
    (ready.setRule 31 (.rule rule56 .occupied (.runtime 2))).ruleAt 31 = .rule rule56 .occupied (.runtime 2) := by
  decide +kernel

theorem test_meets_StoreAndDropSequence :
    storeArgs 7 [step0] = some (7, [{ line := 0, drive := .drive true, hold := 5 }]) ∧ storeArgs 8 [step0] = none ∧
    storeArgs 7 (List.replicate 17 step0) = none ∧ ready.sequence 7 = none ∧
    (ready.setSequence 7 (some { sequence2 with origin := .profile })).sequence 7 =
      some { sequence2 with origin := .profile } ∧
    ((running heldLine .stepping).sequence 2 = some sequence2 ∧
      (running heldLine .stepping).run 0 = some (run0 .stepping)) := by decide +kernel

theorem test_meets_RunBindsTheLinesAndBegins :
    (let s := (withLine heldLine).setSequence 2 (some sequence2)
     s.Hears hdr .readyOnly .none ∧ s.sequence 2 = some sequence2 ∧ s.run 0 = none ∧ s.lineSet 2 = [5] ∧
       ∀ l ∈ s.lineSet 2, (s.line l).holder = .agent 0 ∧ (s.line l).state ≠ .moving ∧ (s.line l).fault = .none ∧
         (s.line l).term = none ∧ (s.line l).binding = none) ∧
    (let s := (running heldLine .stepping).setRun 1 (some (run0 .stepping))
     ∀ k, s.run k ≠ none) ∧
    (let stored := fun (x : Line) => ((withLine x).setSequence 2 (some sequence2)).line 5
     (stored line0).holder ≠ .agent 0 ∧ (stored movingLine).holder = .agent 0 ∧ (stored movingLine).state = .moving ∧
       (stored faultedLine).state ≠ .moving ∧ (stored faultedLine).fault ≠ .none ∧
       (stored { heldLine with term := some 5 }).fault = .none ∧ (stored { heldLine with term := some 5 }).term ≠ none ∧
       (stored { heldLine with binding := some 1 }).term = none ∧
       (stored { heldLine with binding := some 1 }).binding ≠ none) := by decide +kernel

/-- R118: a step with no move and a hold of 0, as the first step, the next one, and one after a move. -/
theorem test_meets_StepsBegun :
    (let st : SeqStep := { line := 5, drive := .float, hold := 0 }
     let s := running heldLine .stepping
     s.admission st.line st.drive = none ∧ (s.line st.line).drive = st.drive ∧ st.hold = 0) ∧
    (let st : SeqStep := { line := 5, drive := .drive true, hold := 0 }
     let s := running heldLine (.holding 10)
     s.admission st.line st.drive = none ∧ (s.line st.line).drive ≠ st.drive) ∧
    (((guarded { heldLine with binding := some 0 }).setRun 0 (some (run0 .stepping))).admission 5 (.drive true) =
      some 0) := by decide +kernel

theorem test_meets_AbortHaltsTheRun :
    (∀ p ∈ [RunPhase.stepping, .holding 20, .halting .aborted],
      (running heldLine p).Hears hdr .readyOnly .none ∧ (running heldLine p).run 0 = some (run0 p)) ∧
    ready.run 1 = none ∧ (1 : Byte).toNat = (1 : SlotId).val ∧
    ((ready.setRun 1 (some { run0 .stepping with agent := 2 })).run 1).map (·.agent) = some 2 := by decide +kernel

theorem test_meets_HoldDeadlineBeginsTheNextStep :
    (at10 (running heldLine (.holding 10))).run 0 = some (run0 (.holding 10)) ∧
    (at10 (running heldLine (.holding 10))).steps 2 = steps2 ∧ steps2.drop 1 ≠ [] ∧ steps2.drop 2 = [] := by
  decide +kernel

theorem test_meets_StepMoveEndHoldsOrHalts :
    ∀ p ∈ [RunPhase.stepping, .halting .aborted],
      let s := at10 (running movingLine p)
      (s.line 5).move.map (·.deadline) = some s.lineTime ∧ (s.line 5).state = .moving ∧ (s.line 5).termDue = false ∧
        (s.line 5).binding = some 0 ∧ s.run 0 = some (run0 p) ∧
        (s.steps 2)[0]? = some { line := 5, drive := .drive true, hold := 3 } := by decide +kernel

def watch5 (pending : Option EdgeRecord) : Watch :=
  { line := 5, edge := .rise, filter := 4, urgent := true,
    view := { filtered := false, candidate := some { level := true, since := 6, deadline := 10 } }, pending := pending }

theorem test_meets_AddAndDropWatch :
    ready.Hears hdr .readyOnly .none ∧ (watchArgs 5 0 50000 1).isSome = true ∧ watchArgs 5 0 50001 1 = none ∧
    live0.watches.get 15 = none ∧ (15 : Byte).toNat = (15 : WatchId).val ∧
    (∀ id, ({ live0 with watches := Vector.replicate 16 (some (watch5 none)) } : Live).watches.get id ≠ none) := by
  decide +kernel

theorem test_meets_NoticesArePresentedInOrder :
    (let v := live0.setWatch 15 (some (watch5 (some { count := 1, stamp := 6 })))
     (withLive v).Hears hdr .readyOnly .none ∧ (((withLive v).heard hdr 0).live 0).map (·.watches) = some v.watches ∧
       v.watches.get 15 = some (watch5 (some { count := 1, stamp := 6 }))) := by decide +kernel

theorem test_meets_AckClearsWhatItNames :
    ackArgs [{ kind := 4, index := 15 }, { kind := 4, index := 15 }] = some [.watchEdge 15, .watchEdge 15] ∧
    (ackArgs (List.replicate 20 { kind := 4, index := 15 })).isSome = true ∧
    ackArgs (List.replicate 21 { kind := 4, index := 15 }) = none ∧
    ((live0.setWatch 15 (some (watch5 (some { count := 1, stamp := 6 })))).acknowledgeAll
      [.watchEdge 15, .watchEdge 15]).2 = 1 ∧
    ((live0.setTicket 3 (.granted (.line 5) 1 .notAsked)).tickets.get 3) = .granted (.line 5) 1 .notAsked := by
  decide +kernel

/-- A session with a pending notice of each of the nine kinds. -/
def liveFull : Live :=
  { (((live0.setWatch 15 (some (watch5 (some { count := 1, stamp := 6 })))).setTicket 3
      (.granted (.line 5) 1 .notAsked)).setTicket 2 (.expired (.line 6) 2)) with
    lineNotices := Vector.replicate 48 { faulted := some 1, inherited := some (1, 2), termEnded := some 3 }
    outcomes := (Vector.replicate 8 none).set 7 (some (.finished 0 4)) |>.set 6 (some (.halted 1 2 .aborted 5))
    losses := Vector.replicate 3 (some (.closed, 6)) }

def nineIds : List NoticeId :=
  [.seqHalted 6, .lineFaulted 47, .lineInherited 47, .watchEdge 15, .agentLost 2, .claimGranted 3, .claimExpired 2,
   .termEnded 47, .seqFinished 7]

/-- R139: each of the nine kinds is cleared once, and skipped where it is named again or never was pending. -/
theorem test_ack_clears_each_kind_once :
    (liveFull.acknowledgeAll (nineIds ++ nineIds)).2 = 9 ∧ (live0.acknowledgeAll nineIds).2 = 0 ∧
    liveFull.acknowledge (.seqFinished 6) = none ∧ liveFull.acknowledge (.claimExpired 3) = none := by decide +kernel

theorem test_meets_FilterDeadlineTakesTheCandidate :
    (∀ p ∈ [Option.none, some { count := 1, stamp := 6 }, some { count := 255, stamp := 6 }],
      let s := at10 (withLive (live0.setWatch 15 (some (watch5 p))))
      (s.live 0).map (fun v => v.watches.get 15) = some (some (watch5 p))) ∧
    (watch5 none).view.candidate = some { level := true, since := 6, deadline := 10 } ∧
    (let w := { watch5 none with edge := .fall }
     ¬ (w.edge = .either ∨ (w.edge = .rise ∧ true = true) ∨ (w.edge = .fall ∧ true = false))) := by decide +kernel

theorem test_meets_WakeFilterDeadlineRaisesTheOutput :
    ∀ e ∈ [Edge.rise, .fall],
      let f : Filter := { filtered := false, candidate := some { level := true, since := 6, deadline := 10 } }
      let w : WakeWatch := { line := 5, edge := e, filter := 4, target := 1, view := some f }
      ({ ready with wakeWatches := List.replicate 8 w } : State).wakeWatches[(7 : Fin 8).val]? = some w := by
  decide +kernel

theorem test_meets_FlashRequestIsAcceptedOrBusy :
    ready.Hears hdr .exceptStarting .configure ∧ ready.loader.flashOp = none ∧
    (readArgs 1 4095 1).isSome = true ∧ (readArgs 1 3968 128).isSome = true ∧ readArgs 1 3969 128 = none ∧
    (writeArgs 4095 [0]).isSome = true ∧ writeArgs 0 [] = none := by decide +kernel

/-- READY with flash work in progress for port 0, over the flash bytes given. -/
def working (work : FlashWork) (flash : List Host.Cell) : State :=
  { ready with flash := flash, loader := { ready.loader with flashOp := some { work := work, port := 0, began := 0 } } }

theorem test_meets_EraseEndsErasedOrDamaged :
    (∀ o, o < slotSize → Memory.read (Memory.leave (Memory.eraseSector [] FlashSlot.b.base) .b (fun _ => true) [])
      (FlashSlot.b.base + o) = 0xFF) ∧
    Memory.read (Memory.leave (Memory.eraseSector [] FlashSlot.b.base) .b (fun _ => true) [(4095, 7)])
      (FlashSlot.b.base + 4095) ≠ 0xFF ∧
    (working .erase []).loader.flashOp = some { work := .erase, port := 0, began := 0 } ∧
    ((7 : LineTime) - 0).toNat < 2147483648 ∧ ({ working .erase [] with lineTime := 400007 } : State).lineTime = 7 + 400000 :=
  ⟨fun _ _ => rfl, by decide, rfl, by decide, by decide⟩

/-- R161: an erase is held to 400 ms from its command, and to none before it began. -/
theorem test_erase_timeout_is_held_to_its_time :
    (({ working .erase [] with lineTime := 400007 } : State).waitedOut 7 eraseLimit).isSome = true ∧
    ({ working .erase [] with lineTime := 400006 } : State).waitedOut 7 eraseLimit = none ∧
    ({ working .erase [] with lineTime := 399999 } : State).waitedOut (-1) eraseLimit = none := by decide +kernel

theorem test_meets_WriteEndsWritingOrDamaged :
    (working (.write 4095 [7]) []).loader.flashOp = some { work := .write 4095 [7], port := 0, began := 0 } ∧
    Memory.wf (working (.write 4095 [7]) []).flash = true ∧
    Memory.read (Memory.program [] 8191 [7]) 8191 = 7 ∧ Memory.read (Memory.program [(8191, 5)] 8191 [7]) 8191 ≠ 7 ∧
    Memory.read (Memory.leave (Memory.program [] 8191 [7]) .b (fun o => decide (4095 ≤ o ∧ o < 4096)) [(4095, 6), (0, 6)])
      8191 ≠ 7 ∧
    ((0 : LineTime) - 0).toNat < 2147483648 ∧ ({ ready with lineTime := 5000 } : State).lineTime = 0 + 5000 := by
  decide +kernel

theorem test_meets_ReadEndsAndBusyFlashFails :
    (working (.read .b 4095 1) []).loader.flashOp = some { work := .read .b 4095 1, port := 0, began := 0 } := rfl

/-! ### Images -/

/-- A body with no group, rule, sequence or wake watch: three agents with every right, and 48 lines of 10 µs whose
fallback is FLOAT and which have no heir. -/
def body0 : List Byte :=
  (List.replicate 3 [3, 0]).flatten ++ (List.replicate 48 [0, 0, 0xFF, 0, 0, 10, 0]).flatten ++ [0, 0, 0, 0]

/-- The header of its image, with a marker and a generation. -/
def header0 (marker generation : Byte) : RawHeader :=
  { identifier := [0x4C, 0x35, 0x48, 0x31], version := 1, marker := marker, length := le16 0x5A 0x01,
    generation := le32 generation 0 0 0, crc := le32 0xC3 0x62 0xFE 0xC1 }

/-- Bytes from an address on, as cells. -/
def cellsFrom (a : Nat) : List Byte → List Host.Cell
  | [] => []
  | b :: bs => if b = 0xFF then cellsFrom (a + 1) bs else (a, b) :: cellsFrom (a + 1) bs

theorem read_cellsFrom_below : ∀ (bs : List Byte) (a x : Nat), x < a → Memory.read (cellsFrom a bs) x = 0xFF
  | [], _, _, _ => rfl
  | b :: bs, a, x, h => by
    unfold cellsFrom
    split
    · exact read_cellsFrom_below bs (a + 1) x (by omega)
    · rw [Memory.read, if_neg (by omega)]
      exact read_cellsFrom_below bs (a + 1) x (by omega)

theorem read_cellsFrom : ∀ (bs : List Byte) (a i : Nat), Memory.read (cellsFrom a bs) (a + i) = (bs[i]?).getD 0xFF
  | [], _, _ => rfl
  | b :: bs, a, 0 => by
    unfold cellsFrom
    split
    · rename_i hb
      rw [read_cellsFrom_below bs (a + 1) (a + 0) (by omega)]
      exact hb.symm
    · rw [Memory.read, if_pos (by omega)]
      rfl
  | b :: bs, a, i + 1 => by
    have ih := read_cellsFrom bs (a + 1) i
    rw [show a + 1 + i = a + (i + 1) from by omega] at ih
    unfold cellsFrom
    split
    · exact ih
    · rw [Memory.read, if_neg (by omega)]
      exact ih

/-- The image as the cells of slot B. -/
def image0 (marker generation : Byte) : List Host.Cell :=
  cellsFrom 4096
    ([0x4C, 0x35, 0x48, 0x31, 1, marker, 0x5A, 0x01, generation, 0, 0, 0, 0xC3, 0x62, 0xFE, 0xC1] ++ body0)

def slotB (m : List Host.Cell) (o : Nat) : Byte := Memory.read m (4096 + o)

theorem image0_header (marker generation : Byte) :
    RawHeader.ofSlot (slotB (image0 marker generation)) = header0 marker generation := by
  simp only [RawHeader.ofSlot, slotB, image0, read_cellsFrom]
  rfl

theorem image0_body (marker generation : Byte) : bodyOf (slotB (image0 marker generation)) 346 = body0 := by
  have h : (List.range 346).map (fun i => (body0[i]?).getD 0xFF) = body0 := by decide +kernel
  refine Eq.trans ?_ h
  simp only [bodyOf, slotB, image0, read_cellsFrom]
  refine List.map_congr_left fun i _ => ?_
  rw [List.getElem?_append_right (by simp)]
  simp

/-- The outcome of the checks: none where they pass. -/
def faultOf (e : Except ImageFault Image) : Option ImageFault :=
  match e with
  | .error e => some e
  | .ok _ => none

theorem image0_checked (mode : CheckMode) (marker generation : Byte) :
    checkImage mode (slotB (image0 marker generation)) =
      checkParts mode (header0 marker generation) body0 := by
  unfold checkImage
  rw [image0_header]
  exact congrArg _ (image0_body marker generation)

theorem test_meets_CommitChecksAndMarksTheSpare :
    (working .commit []).loader.flashOp = some { work := .commit, port := 0, began := 0 } ∧
    faultOf (checkParts (.commit 5) (header0 0x5A 7) body0) = some .generation ∧
    faultOf (checkParts (.commit 5) (header0 0x5A 6) body0) = none ∧
    faultOf (checkParts (.commit 5) (header0 0xFF 6) body0) = none ∧
    faultOf (checkImage (.commit 5) (slotB [])) = some .identifier ∧ Memory.read (image0 0xFF 6) 4101 ≠ 0x5A ∧
    ready.loader.generation ≠ 0xFFFFFFFF := by decide +kernel

theorem test_meets_LoadBringsTheImageIntoForce :
    faultOf (checkParts .load (header0 0x5A 6) body0) = none ∧
    faultOf (checkImage .load fun o => Memory.read (image0 0x5A 6) o) = some .identifier ∧
    (State.reset.resetLow = false ∧ State.reset.loader.load = some { began := 0, restart := false }) ∧
    (∀ l, (State.reset.line l).drive = .float ∧ (State.reset.line l).state = .free ∧ (State.reset.line l).move = none ∧
      (State.reset.line l).fault = .none ∧ (State.reset.line l).priorDrive = none ∧
      (State.reset.line l).term = none ∧ (State.reset.line l).termDue = false ∧
      (State.reset.line l).readback = .off) := by decide +kernel

/-- R64: a rule that both settled levels match chooses the unpinned line, the higher-numbered of two. -/
theorem test_meets_the_restart_conflict_rule :
    (let t : State := { State.reset with loader := { State.reset.loader with load := some { began := 3, restart := true } } }
     t.resetLow = false ∧ t.loader.load = some { began := 3, restart := true }) ∧
    ConflictPass (fun _ => false) (fun _ => { zero := false, one := true }) [rule56] [] [6] ∧
    ConflictPass (fun l => decide (l = 6)) (fun _ => { zero := false, one := true }) [rule56] [] [5] := by
  refine ⟨⟨rfl, rfl⟩, ?_, ?_⟩ <;> simp [ConflictPass, rule56, Rule.matchedBy, Levels.has]

/-- R156, R165: a reset with flash work in progress. -/
theorem test_meets_ResetPinResetsEveryBlock :
    (working (.write 4095 [7]) []).loader.flashOp = some { work := .write 4095 [7], port := 0, began := 0 } ∧
    (FlashWork.write 4095 [7]).Reaches 4095 ∧ ¬ (FlashWork.write 4095 [7]).Reaches 4094 := by
  refine ⟨rfl, ?_, ?_⟩
  · exact Or.inr (Or.inl ⟨4095, [7], rfl, by decide, by decide⟩)
  · rintro (h | ⟨o, d, h, h1, _⟩ | ⟨h, _⟩)
    · cases h
    · injection h with h; omega
    · cases h

theorem test_meets_LoadWithoutAnImageDegrades :
    faultOf (State.reset.checkSlot .a) = some .identifier ∧ faultOf (State.reset.checkSlot .b) = some .identifier ∧
    (({ State.reset with lineTime := 400000 } : State).loader.load).map (fun r => r.began + 400000) = some 400000 ∧
    ({ State.reset with loader := { State.reset.loader with load := some { began := 3, restart := true } } } :
      State).Coherent := by decide +kernel

theorem test_meets_RestartFreesEveryLineAndLoads :
    ready.Hears hdr .exceptStarting .configure ∧ ready.loader.flashOp = none ∧
    (working .erase []).loader.flashOp ≠ none ∧ (working .erase []).Hears hdr .exceptStarting .configure := by
  decide +kernel

theorem test_meets_CommandsLeaveTheRest :
    (requestChecks (.tick hdr)).isSome = true ∧ (∃ t, exec (.tick hdr) ready = .next t) ∧
    (∃ t, exec (.stageEnd 5) ready = .next t) := ⟨rfl, ⟨_, rfl⟩, ⟨_, rfl⟩⟩

/-- The premises of the statements of what every step keeps, in a state other than the one after reset. -/
theorem test_meets_the_invariants :
    (running { movingLine with drive := .drive true } .stepping).Coherent ∧
    (running movingLine .stepping).HoldersOpen ∧ (guarded heldLine).StartFloating ∧ (guarded heldLine).RulesHold ∧
    (guarded heldLine).Coherent ∧ ready.AttentionSound ∧
    ({ ready with wakeOut := ready.wakeOut.set 1 true
                  wakeWatches := [{ line := 5, edge := .rise, filter := 0, target := 1,
                                    view := some { filtered := false, candidate := none } }] } : State).WakesSound ∧ (working (.write 4095 [7]) [(0, 1)]).FlashSound ∧
    ((working .erase []).setPort 0 inProcess).PortsSound := by decide +kernel

/-! ## Steps of the spec's worked examples -/

/-- The state after a step. -/
def after (o : Host.Outcome State Fault Refusal) : Option State :=
  match o with
  | .next t => some t
  | .fault _ => none
  | .refused _ => none

/-- 1.8: L12 is held in FLOAT, with a settle time of 100 µs, and SET to DRIVE 1 at 1,000,000 µs. -/
def held12 : Line := { heldLine with statics := some { line0.static with settle := 100 } }

theorem test_step_set_starts_a_move :
    (after (step { ready.setLine 12 held12 with
        lineTime := 1000000, pending := [.setDrives hdr [{ line := 12, drive := drive1 }]] })).map (fun t => t.line 12) =
      some { held12 with
        state := .moving, drive := .keep true, keeper := some { level := true, drivenAt := 1000000 }
        move := some { kind := .ordinary, stages := .two (.keep true) (.drive true), index := .first,
                       deadline := 1000100, origin := some .float } } := by decide +kernel

/-- 1.8: stage 2 ends at 1,000,200 µs with the level at 1: the line is HELD and its check ARMED. -/
theorem test_step_stage_ends_a_move :
    (after (step { ready.setLine 12 { held12 with
        state := .moving, drive := .drive true, observed := true
        move := some { kind := .ordinary, stages := .two (.keep true) (.drive true), index := .second,
                       deadline := 1000200, origin := none } } with
          lineTime := 1000200, pending := [.stageEnd 12] })).map (fun t => t.line 12) =
      some { held12 with drive := .drive true, observed := true, readback := .armed } := by decide +kernel

/-- R1: the keeper of a line in KEEP 1 follows a level that the board imposes, and a SET to KEEP 1 leaves it so. -/
theorem test_step_keeper_follows_an_override :
    (let kept : Line := { heldLine with drive := .keep true, observed := true,
                                        keeper := some { level := true, drivenAt := 3 } }
     let overridden := (after (step { ready.setLine 12 kept with pending := [.observedLevelChange 12 false] })).getD ready
     (overridden.line 12).pad = .weakHold false ∧
     (after (step { overridden with pending := [.setDrives hdr [{ line := 12, drive := { mode := 1, level := 1 } }]] })).map
        (fun t => t.line 12) = some (overridden.line 12)) := by decide +kernel

/-- R1, 1.10: a driver that overpowers the strong drive of the entry imposes its level on the keeper from then on. -/
theorem test_step_keeper_overpowered_from_its_entry :
    (let entered := ready.setLine 12 (held12.command (.keep true) 0)
     (entered.line 12).observed = false ∧ (entered.line 12).pad = .weakHold true ∧
     (after (step entered)).map (fun t => (t.lineTime, (t.line 12).pad)) = some (1, .weakHold false)) := by
  decide +kernel

/-- R40, R56: at a CLOSE line 5 is parked: its fallback would meet line 6, which agent 1 drives, so it goes to FLOAT. -/
theorem test_step_parking_takes_float_where_admission_refuses :
    (let s := ((guarded falling).setLine 6 { heldLine with holder := .agent 1, drive := .drive true }).setSession 1 session0
     ((after (step { s with pending := [.closeSession hdr] })).map fun t => ((t.line 5).target, (t.line 5).state)) =
       some (some .float, .releasing) ∧
     ((after (step { withLine falling with pending := [.closeSession hdr] })).map fun t => (t.line 5).target) =
       some (some (.drive true))) := by decide +kernel

/-- R115, R118: a RUN of one step with no move and a hold of 0 finishes at its own event. -/
theorem test_step_run_of_no_hold_finishes_at_once :
    (let s := (withLine heldLine).setSequence 2
        (some { origin := .runtime, steps := [{ line := 5, drive := .float, hold := 0 }] })
     (after (step { s with pending := [.runSequence hdr 2] })).map
        (fun t => ((t.line 5).binding, t.run 0, (t.live 0).map fun v => v.outcomes.get 2)) =
       some (none, none, some (some (.finished 0 0)))) := by decide +kernel

/-- 1.10: the readback deadline of the shorted L20, at 5,000,031 µs: the fault is recorded and agent 0 is told. -/
theorem test_step_readback_deadline :
    (after (step { ready.setLine 20 { heldLine with drive := .drive true, readback := .counting 5000031 } with
        lineTime := 5000031, pending := [.readbackDeadline 20] })).map
        (fun t => (t.line 20, (t.live 0).map (fun v => (v.lineNotices.get 20).faulted), t.attention.get 0)) =
      some ({ heldLine with drive := .float, fault := .readback, priorDrive := some (.drive true) },
            some (some 5000031), true) := by decide +kernel

/-- 3.7: a SET of L3, L4 and L9 is refused at L4 by slot 0, and no line moves. -/
theorem test_step_set_refused_by_an_interlock :
    (let s := (((((ready.setLine 3 { heldLine with drive := .sink false }).setLine 4
        { heldLine with drive := .keep false }).setLine 9 { heldLine with drive := .drive false }).setRule 0
        (.rule { x := 3, a := false, y := 4, b := true } .occupied .fixed)).setRule 1
        (.rule { x := 3, a := false, y := 9, b := true } .occupied .fixed))
     (after (step { s with pending := [.setDrives hdr [{ line := 9, drive := drive1 }, { line := 3, drive := drive1 },
        { line := 4, drive := drive1 }]] })).map
        (fun t => ((t.port 0).response.map (·.reply), decide (t.lines = s.lines))) =
      some (some (Reply.of .interlock (.interlock 0 4)), true)) := by decide +kernel

end Sys2Proof.Tests
end

/-! PROOFS of the family of the line table's requests: a request that is taken, heard or refused, once for every request;
then SNAPSHOT and INSPECT (O28). -/

namespace Sys2Proof.Machine

/-! ### The state in which a request is decided -/

@[simp] theorem State.taken_partState (s : State) (h : Header) (k : Nat) : (s.taken h k).partState = s.partState := rfl

@[simp] theorem State.taken_isOpen (s : State) (h : Header) (k : Nat) (m : Port) :
    (s.taken h k).isOpen m = s.isOpen m := rfl

@[simp] theorem State.taken_tag (s : State) (h : Header) (k : Nat) (m : Port) : (s.taken h k).tag m = s.tag m := rfl

@[simp] theorem State.taken_session (s : State) (h : Header) (k : Nat) (m : Port) :
    (s.taken h k).session m = s.session m := rfl

@[simp] theorem State.heard_line (s : State) (h : Header) (k : Nat) (l : LineId) : (s.heard h k).line l = s.line l := rfl

@[simp] theorem State.heard_lineTime (s : State) (h : Header) (k : Nat) : (s.heard h k).lineTime = s.lineTime := rfl

/-! ### A request on a port that listens (R172, R180) -/

/-- A request decided with a reply at once is answered in the state of the decision. -/
theorem State.serve_done {s t : State} {h : Header} {length : Nat} {judge : State → Verdict} {r : Reply}
    (listens : s.Listens h.port) (decided : judge (s.taken h length) = .done t r) :
    s.serve h length judge = t.answered s h r := by
  obtain ⟨high, idle, free⟩ := listens
  have accepts : s.accepts h.port = true := by simp [State.accepts, high, idle]
  have notInProcess : s.inProcess h.port = false := by simp [State.inProcess, free]
  rw [State.serve_taken length judge accepts notInProcess]
  change (judge (s.taken h length)).settle h _ = _
  rw [decided, Verdict.settle_done, State.answered]

/-- R155: a request that the part state does not serve is refused as it is taken, with no keepalive. -/
theorem State.serve_refusedState {α : Type} {s : State} {h : Header} {length : Nat} {service : Service}
    {o : ReqOutcome} (rule : SessionRule) (right : Right) (args : Option α) (body : α → State → Verdict)
    (listens : s.Listens h.port) (refused : service.refusal s.partState = some o) :
    s.serve h length (checked h service rule right args body) = (s.taken h length).answered s h (Reply.bare o) :=
  State.serve_done listens (checked_refusedState rule right args body refused)

/-- R180, step 7: a request that is heard with an argument out of range changes nothing but its port and keepalive. -/
theorem State.serve_badArgument {α : Type} {s : State} {h : Header} {length : Nat} {service : Service} {right : Right}
    (body : α → State → Verdict) (hears : s.Hears h service right) :
    s.serve h length (checked h service .required right none body) =
      (s.heard h length).answered s h (Reply.bare .badArgument) := by
  obtain ⟨listens, served, isOpen, tag, hasRight⟩ := hears
  refine State.serve_done listens ?_
  rw [checked_required (s := s.taken h length) right none body served isOpen tag]
  exact authorise_badArgument body (by rwa [State.keepalive_has])

/-- A request that is heard, with its arguments in range, is answered as its body decides in the state heard. -/
theorem State.serve_heard {α : Type} {s t : State} {h : Header} {length : Nat} {service : Service} {right : Right}
    {a : α} {body : α → State → Verdict} {r : Reply} (hears : s.Hears h service right)
    (decided : body a (s.heard h length) = .done t r) :
    s.serve h length (checked h service .required right (some a) body) = t.answered s h r := by
  obtain ⟨listens, served, isOpen, tag, hasRight⟩ := hears
  refine State.serve_done listens ?_
  rw [checked_passes (s := s.taken h length) a body served isOpen tag hasRight]
  exact decided

/-! ### A number as an argument -/

theorem numberBelow_of_eq {n : Nat} {b : Byte} {i : Fin n} (h : b.toNat = i.val) : numberBelow n b = some i := by
  simp [numberBelow, h]

theorem numberBelow_of_le {n : Nat} {b : Byte} (h : n ≤ b.toNat) : numberBelow n b = none := by
  simp [numberBelow, h]

/-! ### SNAPSHOT and INSPECT (R43, R44) -/

theorem exec_snapshot (h : Header) (s : State) : exec (.snapshot h) s = execSnapshot h s := rfl

theorem exec_inspect (h : Header) (line : Byte) (s : State) : exec (.inspect h line) s = execInspect h line s := rfl

/-- R43: a SNAPSHOT that is heard reads the lines of the state it arrives in. -/
theorem exec_snapshot_heard {h : Header} {s : State} (hears : s.Hears h .readyOnly .none) :
    exec (.snapshot h) s = .next ((s.heard h 0).answered s h
      (Reply.of .ok (.snapshot (allLines.map fun l => (s.line l).snapshot) s.lineTime))) := by
  have decided : decideSnapshot (s.heard h 0) = .done (s.heard h 0)
      (Reply.of .ok (.snapshot (allLines.map fun l => (s.line l).snapshot) s.lineTime)) := by
    simp only [decideSnapshot, State.heard_line, State.heard_lineTime]
  rw [exec_snapshot, execSnapshot, State.serve_heard hears decided]

/-- R44: an INSPECT that is heard reads the record of its line in the state it arrives in. -/
theorem exec_inspect_heard {h : Header} {line : Byte} {l : LineId} {s : State} (hears : s.Hears h .readyOnly .none)
    (inRange : line.toNat = l.val) :
    exec (.inspect h line) s = .next ((s.heard h 1).answered s h
      (Reply.of .ok (.inspect l (s.line l) ((s.line l).remaining s.lineTime) s.lineTime))) := by
  have decided : decideInspect l (s.heard h 1) = .done (s.heard h 1)
      (Reply.of .ok (.inspect l (s.line l) ((s.line l).remaining s.lineTime) s.lineTime)) := by
    simp only [decideInspect, State.heard_line, State.heard_lineTime]
  rw [exec_inspect, execInspect, lineArg, numberBelow_of_eq inRange, State.serve_heard hears decided]

theorem exec_inspect_badArgument {h : Header} {line : Byte} {s : State} (hears : s.Hears h .readyOnly .none)
    (outOfRange : 47 < line.toNat) :
    exec (.inspect h line) s = .next ((s.heard h 1).answered s h (Reply.bare .badArgument)) := by
  rw [exec_inspect, execInspect, lineArg, numberBelow_of_le outOfRange, State.serve_badArgument _ hears]

/-- R155: a request that READY alone serves is refused STARTING and DEGRADED with the part state's own outcome. -/
theorem Service.readyOnly_refusal_of_notReady {p : PartState} {o : ReqOutcome}
    (notReady : (p = .starting ∧ o = .starting) ∨ (p = .degraded ∧ o = .degraded)) :
    Service.readyOnly.refusal p = some o := by
  obtain ⟨rfl, rfl⟩ | ⟨rfl, rfl⟩ := notReady
  · rfl
  · rfl

/-- Settles O28: each request is decided by the common checks, and its body reads the state it is heard in, whose lines
and line time are those it arrived in. -/
theorem snapshotAndInspectReadTheRecords : Obligations.SnapshotAndInspectReadTheRecords := by
  unfold Obligations.SnapshotAndInspectReadTheRecords
  refine ⟨fun h s hears => ⟨?_, fun line l inRange => ?_⟩, fun h line s => ⟨fun listens o notReady => ?_, ?_⟩⟩
  · exact exec_snapshot_heard hears
  · exact exec_inspect_heard hears inRange
  · have refused := Service.readyOnly_refusal_of_notReady notReady
    constructor
    · rw [exec_snapshot, execSnapshot, State.serve_refusedState _ _ _ _ listens refused]
    · rw [exec_inspect, execInspect, State.serve_refusedState _ _ _ _ listens refused]
  · exact exec_inspect_badArgument

end Sys2Proof.Machine

/-! PROOFS of the family of the interlocks: which slot of a table `Table.lowest` finds, what it takes for a slot to
refuse a change, and with both of them what admission answers (O34). -/

namespace Sys2Proof.Machine

/-! ### The lowest entry of a table that passes a test -/

theorem Table.lowest_eq_find? {α : Type} {n : Nat} (t : Vector α n) (p : α → Bool) :
    Table.lowest t p = Fin.find? fun i => p (t.get i) := Fin.find?_eq_find?_finRange.symm

theorem Table.lowest_eq_none_iff {α : Type} {n : Nat} {t : Vector α n} {p : α → Bool} :
    Table.lowest t p = none ↔ ∀ i, ¬ p (t.get i) = true := by
  simp only [Table.lowest_eq_find?, Fin.find?_eq_none_iff, Bool.not_eq_true]

theorem Table.lowest_eq_some_iff {α : Type} {n : Nat} {t : Vector α n} {p : α → Bool} {i : Fin n} :
    Table.lowest t p = some i ↔ p (t.get i) = true ∧ ∀ j, j < i → ¬ p (t.get j) = true := by
  simp only [Table.lowest_eq_find?, Fin.find?_eq_some_iff, Bool.not_eq_true]

/-! ### A change that adds no level to its line (R51, R52) -/

theorem Levels.union_self (p : Levels) : p.union p = p := by simp [Levels.union]

theorem Levels.union_empty (p : Levels) : p.union Levels.empty = p := by simp [Levels.union, Levels.empty]

theorem Drive.addsTo_eq_false_iff {d present : Drive} :
    d.addsTo present = false ↔ d.asserted = none ∨ d.asserted = present.asserted := by
  rw [Drive.addsTo, decide_eq_false_iff_not, not_and_or, not_not, not_not]

theorem Drive.levels_union_of_not_addsTo {d present : Drive} (adds : d.addsTo present = false) :
    present.levels.union d.levels = present.levels := by
  obtain nothing | same := Drive.addsTo_eq_false_iff.mp adds
  · rw [Drive.levels, Drive.levels, nothing]
    exact Levels.union_empty _
  · rw [Drive.levels, Drive.levels, same, Levels.union_self]

theorem Line.levels_of_noMove {ln : Line} (noMove : ln.move = none) : ln.levels = ln.drive.levels := by
  rw [Line.levels, noMove]

/-- R52: for a line in no move, a drive that adds no level leaves the hypothetical set as the assertion set stands. -/
theorem State.hypothetical_eq_assertion {s : State} {x : LineId} {d : Drive} (noMove : (s.line x).move = none)
    (adds : d.addsTo (s.line x).drive = false) : s.hypothetical x d = s.assertion := by
  funext l
  by_cases same : l = x
  · rw [State.hypothetical, if_pos same, Drive.levels_union_of_not_addsTo adds, State.assertion, same,
      Line.levels_of_noMove noMove]
  · rw [State.hypothetical, if_neg same]

/-! ### The slots that refuse a change (R52) -/

theorem InterlockSlot.refuses_rule_iff {r : Rule} {status : RuleStatus} {origin : RuleOrigin} {s : State} {x : LineId}
    {d : Drive} :
    (InterlockSlot.rule r status origin).refuses s x d = true ↔ (r.x = x ∨ r.y = x) ∧
      r.matchedBy (s.hypothetical x d) = true ∧
      ¬ (status = .reserved ∧ r.matchedBy s.assertion = true ∧
          (d.asserted = none ∨ d.asserted = (s.line x).drive.asserted)) := by
  rw [← Drive.addsTo_eq_false_iff, and_comm (a := r.matchedBy s.assertion = true)]
  simp only [InterlockSlot.refuses, Rule.names, Bool.and_eq_true, Bool.not_eq_true', ← Bool.not_eq_true,
    decide_eq_true_eq, and_assoc]

theorem InterlockSlot.refuses_iff {slot : InterlockSlot} {s : State} {x : LineId} {d : Drive} :
    slot.refuses s x d = true ↔ ∃ r status origin, slot = .rule r status origin ∧ (r.x = x ∨ r.y = x) ∧
      r.matchedBy (s.hypothetical x d) = true ∧
      ¬ (status = .reserved ∧ r.matchedBy s.assertion = true ∧
          (d.asserted = none ∨ d.asserted = (s.line x).drive.asserted)) := by
  cases slot with
  | empty => simp [InterlockSlot.refuses]
  | rule r status origin =>
    constructor
    · exact fun refuses => ⟨r, status, origin, rfl, InterlockSlot.refuses_rule_iff.mp refuses⟩
    · rintro ⟨_, _, _, ⟨⟩, tested⟩
      exact InterlockSlot.refuses_rule_iff.mpr tested

/-- R51, R52: where nothing is added, a slot that holds to R51 refuses nothing: its OCCUPIED rule is not matched, and
its RESERVED rule is left out of the test once matched. -/
theorem InterlockSlot.not_refuses_of_unmatched {slot : InterlockSlot} {s : State} {x : LineId} {d : Drive}
    (unmatched : slot.unmatched s.assertion = true) (noMove : (s.line x).move = none)
    (adds : d.addsTo (s.line x).drive = false) : ¬ slot.refuses s x d = true := by
  intro refuses
  obtain ⟨r, status, origin, rfl, -, isMatched, tested⟩ := InterlockSlot.refuses_iff.mp refuses
  rw [State.hypothetical_eq_assertion noMove adds] at isMatched
  cases status with
  | occupied => simp [InterlockSlot.unmatched, isMatched] at unmatched
  | reserved => exact tested ⟨rfl, isMatched, Drive.addsTo_eq_false_iff.mp adds⟩

/-! ### Admission (R52) -/

theorem State.admission_eq_none_iff {s : State} {x : LineId} {d : Drive} :
    s.admission x d = none ↔ ∀ k, ¬ (s.ruleAt k).refuses s x d = true := Table.lowest_eq_none_iff

theorem State.admission_eq_some_iff {s : State} {x : LineId} {d : Drive} {k : RuleSlot} :
    s.admission x d = some k ↔
      (s.ruleAt k).refuses s x d = true ∧ ∀ j, j < k → ¬ (s.ruleAt j).refuses s x d = true :=
  Table.lowest_eq_some_iff

/-- R52: a drive that adds no level is admitted for a line in no move while no rule of the table is matched. -/
theorem State.admission_of_not_addsTo {s : State} {x : LineId} {d : Drive} (rules : s.RulesHold)
    (noMove : (s.line x).move = none) (adds : d.addsTo (s.line x).drive = false) : s.admission x d = none :=
  State.admission_eq_none_iff.mpr fun k => InterlockSlot.not_refuses_of_unmatched (rules k) noMove adds

/-- Settles O34: admission answers the lowest slot that refuses, `InterlockSlot.refuses_iff` says which slots do, and
both the present drive and one that asserts nothing add no level. -/
theorem admissionFollowsTheRules : Obligations.AdmissionFollowsTheRules := by
  unfold Obligations.AdmissionFollowsTheRules
  intro x d s sets refuses
  have refuses_iff : ∀ k, (s.ruleAt k).refuses s x d = true ↔ refuses k := fun k => InterlockSlot.refuses_iff
  refine ⟨?_, fun k => ?_, fun rules noMove keeps => ?_⟩
  · simp only [State.admission_eq_none_iff, refuses_iff]
  · simp only [State.admission_eq_some_iff, refuses_iff]
  · have adds : d.addsTo (s.line x).drive = false :=
      Drive.addsTo_eq_false_iff.mpr (keeps.symm.imp_right fun same => by rw [same])
    exact State.admission_of_not_addsTo rules noMove adds

end Sys2Proof.Machine

/-! PROOFS of the family of the claims and the pending list: what a ticket's change and an entry's removal make of the
state, then CANCEL (O21) and the patience deadline (O22). -/

namespace Sys2Proof.Machine

/-! ### The notices and tickets of an open session (R142) -/

/-- R142: a change of what an open session holds writes its record and re-evaluates its attention output. -/
theorem State.modifyNotices_of_live {s : State} {n : Port} {v : Live} (f : Live → Live) (live : s.live n = some v) :
    s.modifyNotices n f = { s with
      sessions := s.sessions.set n { s.session n with live := some (f v) }
      attention := s.attention.set n (f v).alerts } := by
  have changed : (s.modifyLive n f).live n = some (f v) := by rw [State.live_modifyLive, if_pos rfl, live]; rfl
  have due : (s.modifyLive n f).attentionDue n = (f v).alerts := by rw [State.attentionDue, changed]
  rw [State.modifyNotices, State.reattend, due, State.modifyLive, live]
  rfl

theorem State.setTicket_of_live {s : State} {n : Port} {v : Live} (k : TicketId) (x : Ticket)
    (live : s.live n = some v) :
    s.setTicket n k x = { s with
      sessions := s.sessions.set n { s.session n with live := some { v with tickets := v.tickets.set k x } }
      attention := s.attention.set n { v with tickets := v.tickets.set k x }.alerts } :=
  State.modifyNotices_of_live (fun v => v.setTicket k x) live

theorem State.ticket_of_live {s : State} {n : Port} {v : Live} (k : TicketId) (live : s.live n = some v) :
    s.ticket n k = v.tickets.get k := by
  simp [State.ticket, live]

/-! ### The pending list (R77, R79) -/

theorem Entry.is_iff {e : Entry} {n : Port} {k : TicketId} : e.is n k = true ↔ e.agent = n ∧ e.ticket = k :=
  decide_eq_true_iff

@[simp] theorem State.removeEntry_session (s : State) (n m : Port) (k : TicketId) :
    (s.removeEntry n k).session m = s.session m := rfl

@[simp] theorem State.removeEntry_live (s : State) (n m : Port) (k : TicketId) :
    (s.removeEntry n k).live m = s.live m := rfl

/-- R79: what stays in the list is every entry that is not of that agent and ticket. -/
theorem State.removeEntry_pendingList (s : State) (n : Port) (k : TicketId) :
    (s.removeEntry n k).pendingList = s.pendingList.filter fun e => decide (¬ (e.agent = n ∧ e.ticket = k)) := by
  simp only [State.removeEntry, Entry.is, decide_not]

/-- R76, R84: the removal of an entry together with its ticket's change. -/
theorem State.removeEntry_setTicket_of_live {s : State} {n : Port} {v : Live} (k : TicketId) (x : Ticket)
    (live : s.live n = some v) :
    (s.removeEntry n k).setTicket n k x = { s with
      sessions := s.sessions.set n { s.session n with live := some { v with tickets := v.tickets.set k x } }
      attention := s.attention.set n { v with tickets := v.tickets.set k x }.alerts
      pendingList := s.pendingList.filter fun e => decide (¬ (e.agent = n ∧ e.ticket = k)) } := by
  rw [State.setTicket_of_live k x ((State.removeEntry_live s n n k).trans live), ← State.removeEntry_pendingList]
  rfl

/-! ### CANCEL (R76) -/

theorem exec_cancel (h : Header) (ticket : Byte) (s : State) : exec (.cancel h ticket) s = execCancel h ticket s := rfl

/-- A CANCEL that is heard is answered as the owning block decides on the ticket of that number. -/
theorem exec_cancel_heard {h : Header} {ticket : Byte} {k : TicketId} {s t : State} {r : Reply}
    (hears : s.Hears h .readyOnly .none) (inRange : ticket.toNat = k.val)
    (decided : decideCancel h.port k (s.heard h 1) = .done t r) :
    exec (.cancel h ticket) s = .next (t.answered s h r) := by
  rw [exec_cancel, execCancel, numberBelow_of_eq inRange, State.serve_heard hears decided]

theorem exec_cancel_badArgument {h : Header} {ticket : Byte} {s : State} (hears : s.Hears h .readyOnly .none)
    (outOfRange : 3 < ticket.toNat) :
    exec (.cancel h ticket) s = .next ((s.heard h 1).answered s h (Reply.bare .badArgument)) := by
  rw [exec_cancel, execCancel, numberBelow_of_le outOfRange, State.serve_badArgument _ hears]

section
variable {s : State} {n : Port} {k : TicketId}

theorem decideCancel_waiting {t : Target} (ticket : s.ticket n k = .waiting t) :
    decideCancel n k s = .done ((s.removeEntry n k).setTicket n k .idle) (Reply.bare .ok) := by
  rw [decideCancel, ticket]

theorem decideCancel_granted {t : Target} {time : LineTime} {applied : DriveApplied}
    (ticket : s.ticket n k = .granted t time applied) : decideCancel n k s = .done s (Reply.bare .tooLate) := by
  rw [decideCancel, ticket]

theorem decideCancel_expired {t : Target} {time : LineTime} (ticket : s.ticket n k = .expired t time) :
    decideCancel n k s = .done (s.setTicket n k .idle) (Reply.bare .ok) := by
  rw [decideCancel, ticket]

theorem decideCancel_idle (ticket : s.ticket n k = .idle) :
    decideCancel n k s = .done s (Reply.bare .notFound) := by
  rw [decideCancel, ticket]

end

/-- Settles O21: in each state of the ticket the block's decision in the state heard is the one stated, and the ticket's
change writes out as the session's record and its attention output. -/
theorem cancelActsOnTheTicket : Obligations.CancelActsOnTheTicket := by
  unfold Obligations.CancelActsOnTheTicket
  refine ⟨fun h ticket k v s hears inRange live => ?_, fun h ticket s => exec_cancel_badArgument⟩
  have read : (s.heard h 1).ticket h.port k = v.tickets.get k := State.ticket_of_live k live
  refine ⟨fun t waiting => ?_, fun t time expired => ?_, fun t time applied granted => ?_, fun idle => ?_⟩
  · rw [exec_cancel_heard hears inRange (decideCancel_waiting (read.trans waiting)),
      State.removeEntry_setTicket_of_live k .idle live]
    rfl
  · rw [exec_cancel_heard hears inRange (decideCancel_expired (read.trans expired)),
      State.setTicket_of_live k .idle live]
    rfl
  · exact exec_cancel_heard hears inRange (decideCancel_granted (read.trans granted))
  · exact exec_cancel_heard hears inRange (decideCancel_idle (read.trans idle))

/-! ### The patience deadline (R84) -/

theorem exec_patienceDeadline (n : Port) (k : TicketId) (s : State) :
    exec (.patienceDeadline n k) s = execPatienceDeadline n k s := rfl

/-- R77, R84: the one entry of a ticket is the one that is due, once its deadline is reached. -/
theorem State.patienceDue_of_unique {s : State} {n : Port} {k : TicketId} {e : Entry} (listed : e ∈ s.pendingList)
    (is : e.is n k = true) (reached : e.deadline = s.lineTime)
    (unique : ∀ d ∈ s.pendingList, d.is n k = true → d = e) : s.patienceDue n k = some e := by
  cases found : s.patienceDue n k with
  | none =>
    have notDue := List.find?_eq_none.mp found e listed
    simp [is, reached] at notDue
  | some d =>
    have due := List.find?_some found
    rw [unique d (List.mem_of_find?_eq_some found) (Bool.and_eq_true_iff.mp due).1]

theorem exec_patienceDeadline_of_due {s : State} {n : Port} {k : TicketId} {e : Entry}
    (due : s.patienceDue n k = some e) : exec (.patienceDeadline n k) s = .next (s.expireEntry e) := by
  rw [exec_patienceDeadline, execPatienceDeadline, due]

/-- Settles O22: the ticket's one entry is the one found due, and its expiry is its removal with its ticket's change. -/
theorem patienceDeadlineExpiresTheTicket : Obligations.PatienceDeadlineExpiresTheTicket := by
  unfold Obligations.PatienceDeadlineExpiresTheTicket
  rintro _ _ e v s listed rfl rfl reached unique live
  have due : s.patienceDue e.agent e.ticket = some e :=
    State.patienceDue_of_unique listed (Entry.is_iff.mpr ⟨rfl, rfl⟩) reached fun d mem is =>
      (Entry.is_iff.mp is).elim (unique d mem)
  rw [exec_patienceDeadline_of_due due, State.expireEntry, State.removeEntry_setTicket_of_live _ _ live]

end Sys2Proof.Machine

/-! PROOFS of the family of the sessions: SET_MASK (O15); then the end of a session, which is the disposition of the
lost agent's lines (R38 to R40) followed by what R105 and R106 do to the records of the sessions; and with it the period
deadline (O16). -/

namespace Sys2Proof.Machine

/-! ### SET_MASK (R102) -/

theorem maskArg_eq_some {b : Byte} {m : AttentionMask}
    (coded : (b = 0 ∧ m = .all) ∨ (b = 1 ∧ m = .urgentOnly) ∨ (b = 2 ∧ m = .none)) : maskArg b = some m := by
  obtain ⟨rfl, rfl⟩ | ⟨rfl, rfl⟩ | ⟨rfl, rfl⟩ := coded <;> rfl

theorem maskArg_eq_none {b : Byte} (outOfRange : 2 < b.toNat) : maskArg b = none := by
  have not0 : b ≠ 0 := by rintro rfl; simp at outOfRange
  have not1 : b ≠ 1 := by rintro rfl; simp at outOfRange
  have not2 : b ≠ 2 := by rintro rfl; simp at outOfRange
  rw [maskArg, if_neg not0, if_neg not1, if_neg not2]

theorem exec_setMask (h : Header) (mask : Byte) (s : State) : exec (.setMask h mask) s = execSetMask h mask s := rfl

/-- Settles O15: a mask in range is heard and written as a change of what the session holds, which re-evaluates its
attention output; any other fails the argument check. -/
theorem setMaskChangesTheMask : Obligations.SetMaskChangesTheMask := by
  unfold Obligations.SetMaskChangesTheMask
  refine fun h mask s hears => ⟨fun m coded v live => ?_, fun outOfRange => ?_⟩
  · have decided : decideSetMask h.port m (s.heard h 1) = .done _ (Reply.bare .ok) :=
      congrArg (Verdict.done · _) (State.modifyNotices_of_live (fun v => { v with mask := m }) live)
    rw [exec_setMask, execSetMask, maskArg_eq_some coded, State.serve_heard hears decided]
    rfl
  · rw [exec_setMask, execSetMask, maskArg_eq_none outOfRange, State.serve_badArgument _ hears]

/-! ### A session's record and the others' notices (R106, R136, R142) -/

theorem Table.ext {α : Type} {n : Nat} {t u : Vector α n} (same : ∀ i, t.get i = u.get i) : t = u :=
  Vector.ext fun i inRange => same ⟨i, inRange⟩

/-- Only session records and attention outputs differ. -/
def State.SameButNotices (s t : State) : Prop := t = { s with sessions := t.sessions, attention := t.attention }

theorem State.SameButNotices.refl (s : State) : s.SameButNotices s := rfl

theorem State.SameButNotices.trans {s t u : State} (h : s.SameButNotices t) (k : t.SameButNotices u) :
    s.SameButNotices u := by
  unfold State.SameButNotices at *
  rw [k, h]

theorem State.SameButNotices.lineTime {s t : State} (h : s.SameButNotices t) : t.lineTime = s.lineTime := by
  unfold State.SameButNotices at h
  rw [h]

theorem State.modifyNotices_same (s : State) (n : Port) (f : Live → Live) : s.SameButNotices (s.modifyNotices n f) := rfl

theorem State.session_modifyNotices (s : State) (n m : Port) (f : Live → Live) :
    (s.modifyNotices n f).session m =
      if m = n then { s.session n with live := (s.live n).map f } else s.session m :=
  State.session_modifyLive s n m f

theorem State.attention_reattend (s : State) (n m : Port) :
    (s.reattend n).attention.get m = if m = n then s.attentionDue n else s.attention.get m :=
  Table.get_set s.attention n m _

theorem State.attentionDue_modifyLive (s : State) (n : Port) (f : Live → Live) :
    (s.modifyLive n f).attentionDue n = ((s.live n).map fun v => (f v).alerts).getD false := by
  rw [State.attentionDue, State.live_modifyLive, if_pos rfl]
  cases s.live n <;> rfl

theorem State.attention_modifyNotices (s : State) (n m : Port) (f : Live → Live) :
    (s.modifyNotices n f).attention.get m =
      if m = n then ((s.live n).map fun v => (f v).alerts).getD false else s.attention.get m := by
  rw [State.modifyNotices, State.attention_reattend, State.attentionDue_modifyLive, State.modifyLive_attention]

/-! ### The telling of a loss (R106) -/

/-- R106: an open session once AGENT_LOST for port `lost` is posted to it at line time `now`. -/
def Live.told (v : Live) (lost : Port) (cause : EndCause) (now : LineTime) : Live :=
  { v with losses := v.losses.set lost (some (cause, now)) }

/-- R106: one port of the telling. -/
def State.tellPort (lost : Port) (cause : EndCause) (s : State) (n : Port) : State :=
  if n ≠ lost ∧ s.isOpen n then s.postLoss n lost cause else s

theorem State.tellLoss_eq_foldl (s : State) (lost : Port) (cause : EndCause) :
    s.tellLoss lost cause = (List.finRange 3).foldl (State.tellPort lost cause) s := rfl

section
variable (s : State) (lost n : Port) (cause : EndCause)

theorem State.tellPort_same : s.SameButNotices (s.tellPort lost cause n) := by
  unfold State.tellPort
  split
  · exact State.modifyNotices_same s n _
  · exact State.SameButNotices.refl s

theorem State.session_tellPort_other {m : Port} (other : m ≠ n) :
    (State.tellPort lost cause s n).session m = s.session m := by
  unfold State.tellPort
  split
  · rw [State.postLoss, State.session_modifyNotices, if_neg other]
  · rfl

theorem State.attention_tellPort_other {m : Port} (other : m ≠ n) :
    (State.tellPort lost cause s n).attention.get m = s.attention.get m := by
  unfold State.tellPort
  split
  · rw [State.postLoss, State.attention_modifyNotices, if_neg other]
  · rfl

end

section
variable {s : State} {lost m : Port} {cause : EndCause}

theorem State.session_tellPort_told (other : m ≠ lost) :
    (State.tellPort lost cause s m).session m =
      { s.session m with live := (s.live m).map fun v => v.told lost cause s.lineTime } := by
  unfold State.tellPort
  split
  · rw [State.postLoss, State.session_modifyNotices, if_pos rfl]
    rfl
  · rename_i closed
    have noLive : (s.session m).live = none := by simpa [other, State.isOpen, State.live] using closed
    rw [State.live, noLive, Option.map_none, ← noLive]

theorem State.attention_tellPort_told (other : m ≠ lost) :
    (State.tellPort lost cause s m).attention.get m = match s.live m with
      | none => s.attention.get m
      | some v => (v.told lost cause s.lineTime).alerts := by
  unfold State.tellPort
  cases live : s.live m with
  | none => rw [if_neg (by simp [State.isOpen, live])]
  | some v =>
    rw [if_pos (by simp [State.isOpen, live, other]), State.postLoss, State.attention_modifyNotices, if_pos rfl, live]
    rfl

theorem State.foldl_tellPort_same (lost : Port) (cause : EndCause) : ∀ (ports : List Port) (s : State),
    s.SameButNotices (ports.foldl (State.tellPort lost cause) s)
  | [], s => State.SameButNotices.refl s
  | n :: ports, s => (State.tellPort_same s lost n cause).trans (State.foldl_tellPort_same lost cause ports _)

theorem State.foldl_tellPort_other : ∀ (ports : List Port) (s : State), m ∉ ports →
    (ports.foldl (State.tellPort lost cause) s).session m = s.session m ∧
      (ports.foldl (State.tellPort lost cause) s).attention.get m = s.attention.get m
  | [], _, _ => ⟨rfl, rfl⟩
  | n :: ports, s, notIn => by
    obtain ⟨other, notIn⟩ := not_or.mp (List.mem_cons.not.mp notIn)
    obtain ⟨session, attention⟩ := State.foldl_tellPort_other ports (State.tellPort lost cause s n) notIn
    exact ⟨session.trans (State.session_tellPort_other s lost n cause other),
      attention.trans (State.attention_tellPort_other s lost n cause other)⟩

/-- The telling of one port stands for the whole of R106, as far as that port's record and output go. -/
theorem State.tellLoss_at (s : State) (lost m : Port) (cause : EndCause) : ∃ u : State,
    s.SameButNotices u ∧ u.session m = s.session m ∧ u.attention.get m = s.attention.get m ∧
    (s.tellLoss lost cause).session m = (State.tellPort lost cause u m).session m ∧
    (s.tellLoss lost cause).attention.get m = (State.tellPort lost cause u m).attention.get m := by
  obtain ⟨before, after, ports⟩ := List.append_of_mem (List.mem_finRange m)
  have nodup : (before ++ m :: after).Nodup := ports ▸ List.nodup_finRange 3
  have notBefore : m ∉ before := fun mem => List.disjoint_of_nodup_append nodup mem List.mem_cons_self
  have notAfter : m ∉ after := (List.nodup_cons.mp nodup.of_append_right).1
  obtain ⟨session, attention⟩ := State.foldl_tellPort_other (lost := lost) (cause := cause) before s notBefore
  refine ⟨_, State.foldl_tellPort_same lost cause before s, session, attention, ?_⟩
  rw [State.tellLoss_eq_foldl, ports, List.foldl_append, List.foldl_cons]
  exact State.foldl_tellPort_other after _ notAfter

theorem State.tellLoss_same (s : State) (lost : Port) (cause : EndCause) : s.SameButNotices (s.tellLoss lost cause) :=
  State.foldl_tellPort_same lost cause _ s

theorem State.session_tellLoss (other : m ≠ lost) :
    (s.tellLoss lost cause).session m =
      { s.session m with live := (s.live m).map fun v => v.told lost cause s.lineTime } := by
  obtain ⟨u, same, session, -, told, -⟩ := State.tellLoss_at s lost m cause
  rw [told, State.session_tellPort_told other, State.live, session, same.lineTime, State.live]

theorem State.attention_tellLoss (other : m ≠ lost) :
    (s.tellLoss lost cause).attention.get m = match s.live m with
      | none => s.attention.get m
      | some v => (v.told lost cause s.lineTime).alerts := by
  obtain ⟨u, same, session, attention, -, told⟩ := State.tellLoss_at s lost m cause
  rw [told, State.attention_tellPort_told other, State.live, session, same.lineTime, attention, State.live]

/-- R106: the lost agent itself is not told. -/
theorem State.session_tellLoss_lost : (s.tellLoss lost cause).session lost = s.session lost := by
  obtain ⟨u, -, session, -, told, -⟩ := State.tellLoss_at s lost lost cause
  rw [told, State.tellPort, if_neg fun other => other.1 rfl, session]

end

/-! ### The session's own record at its end (R105) -/

section
variable (s : State) (n : Port) (cause : EndCause)

theorem State.closeRecord_same : s.SameButNotices (s.closeRecord n cause) := rfl

theorem State.session_closeRecord (m : Port) : (s.closeRecord n cause).session m =
    if m = n then { s.session n with lastEnd := cause, live := none } else s.session m :=
  State.session_setSession s n m _

theorem State.attention_closeRecord (m : Port) : (s.closeRecord n cause).attention.get m =
    if m = n then false else s.attention.get m := by
  have closed : (s.setSession n { s.session n with lastEnd := cause, live := none }).live n = none := by
    rw [State.live, State.session_setSession, if_pos rfl]
  rw [State.closeRecord, State.attention_reattend, State.attentionDue, closed, State.setSession_attention]

end

/-! ### What the disposition writes into one line (R38 to R40) -/

theorem Line.command_eq_commanded (ln : Line) (d : Drive) (now : LineTime) : ln.command d now = ln.commanded d now := by
  by_cases present : ln.drive = d
  · simp only [Line.command, Line.commanded, if_pos present]
  · cases d <;> simp [Line.command, Line.commanded, Drive.entryLevel, present]

theorem Line.checkedIn_binding (ln : Line) (now : LineTime) : (ln.checkedIn now).binding = ln.binding := by
  unfold Line.checkedIn
  split <;> rfl

theorem State.line_enterChecked (s : State) (l : LineId) :
    (s.enterChecked l).line l = (s.line l).checkedIn s.lineTime := by
  unfold State.enterChecked Line.checkedIn
  by_cases checked : (s.line l).state = .held ∧ (s.line l).drive.checked = true
  · rw [if_pos checked, if_pos checked, State.line_setLine, if_pos rfl]
    rfl
  · rw [if_neg checked, if_neg checked]

/-- R120, R123: the end of a run unbinds the lines bound to its slot, and touches nothing else of any line. -/
theorem State.line_dropRun (s : State) (k : SlotId) (l : LineId) :
    (s.dropRun k).line l =
      { s.line l with binding := if (s.line l).binding = some k then none else (s.line l).binding } := by
  have unbound : (s.dropRun k).line l =
      if (s.line l).binding = some k then { s.line l with binding := none } else s.line l := by
    rw [State.dropRun, State.line, State.setRun_lines, State.unbind, Table.get_map]
    rfl
  rw [unbound]
  by_cases bound : (s.line l).binding = some k
  · rw [if_pos bound, if_pos bound]
  · rw [if_neg bound, if_neg bound]

theorem State.run_dropRun (s : State) (k j : SlotId) :
    (s.dropRun k).run j = if j = k then none else s.run j := Table.get_set s.slots k j none

theorem State.assertion_settleReserved (s : State) : s.settleReserved.assertion = s.assertion :=
  funext fun l => congrArg Line.levels (State.line_settleReserved s l)

/-- R9, R65: an abandonment of a move settles the RESERVED rules by what the lines then assert. -/
theorem State.interlocks_abandon (s : State) (l : LineId) :
    (s.abandon l).interlocks =
      if (s.line l).move.isSome then Table.map (fun slot => slot.settle (s.abandon l).assertion) s.interlocks
      else s.interlocks := by
  cases move : (s.line l).move with
  | none => rw [State.abandon_none move, if_neg (by simp)]
  | some m =>
    have abandoned : s.abandon l = (s.modifyLine l fun ln => { ln with move := none }).settleReserved := by
      rw [State.abandon, move]
    rw [Option.isSome_some, if_pos rfl, abandoned, State.assertion_settleReserved, State.settleReserved]
    rfl

/-- A line as its heir has it (R39), before it enters the checked condition. -/
def Line.inheritedBy (ln : Line) (heir : Port) : Line :=
  { ln with state := .held, holder := .agent heir, heir := none, term := none, termDue := false }

section
variable (s : State) (lost heir : Port) (l : LineId) (wasMoving : Bool)

/-- The line's own part of R39, with the notice to the heir left out. -/
def State.inheritLine : State :=
  let s := s.modifyLine l (·.inheritedBy heir)
  if wasMoving then s.enterChecked l else s

theorem State.inherit_eq : s.inherit_ lost heir l wasMoving =
    (s.inheritLine heir l wasMoving).postInherited heir l lost := rfl

theorem State.inheritLine_same : s.SameButLines (s.inheritLine heir l wasMoving) := by
  cases wasMoving with
  | false => exact State.modifyLine_same s l (·.inheritedBy heir)
  | true => exact (State.modifyLine_same s l (·.inheritedBy heir)).trans (State.enterChecked_same _ l)

theorem State.interlocks_enterChecked : (s.enterChecked l).interlocks = s.interlocks := by
  unfold State.enterChecked
  by_cases checked : (s.line l).state = .held ∧ (s.line l).drive.checked = true
  · rw [if_pos checked]
    rfl
  · rw [if_neg checked]

theorem State.interlocks_inheritLine : (s.inheritLine heir l wasMoving).interlocks = s.interlocks := by
  cases wasMoving with
  | false => rfl
  | true => exact State.interlocks_enterChecked _ l

theorem State.line_inheritLine : (s.inheritLine heir l wasMoving).line l =
    if wasMoving then ((s.line l).inheritedBy heir).checkedIn s.lineTime else (s.line l).inheritedBy heir := by
  have written : (s.modifyLine l (·.inheritedBy heir)).line l = (s.line l).inheritedBy heir := by
    rw [State.line_modifyLine, if_pos rfl]
  cases wasMoving with
  | false => exact written
  | true => exact (State.line_enterChecked _ l).trans (congrArg (Line.checkedIn · s.lineTime) written)

theorem State.line_inheritLine_other {m : LineId} (other : m ≠ l) :
    (s.inheritLine heir l wasMoving).line m = s.line m := by
  have notWritten : (s.modifyLine l (·.inheritedBy heir)).line m = s.line m := by
    rw [State.line_modifyLine, if_neg other]
  cases wasMoving with
  | false => exact notWritten
  | true => exact (State.line_enterChecked_other _ other).trans notWritten

/-- R40: the record of a line that is parked. -/
theorem State.line_park : (s.park l).line l = (s.line l).released .lost (s.fallbackOrFloat l) s.lineTime := by
  rw [State.park, State.beginRelease, State.line_startMove_release, State.line_modifyLine, if_pos rfl,
    Line.command_eq_commanded]
  rfl

/-- R40, R65: a release move that begins on a line with no move shrinks no assertion. -/
theorem State.interlocks_park (noMove : (s.line l).move = none) : (s.park l).interlocks = s.interlocks := by
  rw [State.park, State.beginRelease, State.startMove, State.abandon_none]
  · rfl
  · rw [State.line_modifyLine, if_pos rfl]
    exact noMove

end

/-! ### What admission looks at (R52) -/

/-- Admission of line `x` looks at what the lines assert, at the drive of `x` and at the interlock table. -/
theorem State.admission_congr {s t : State} {x : LineId} {d : Drive} {table : Vector InterlockSlot 32}
    (assertion : s.assertion = t.assertion) (drive : (s.line x).drive = (t.line x).drive)
    (interlocks : s.interlocks = table) :
    s.admission x d = ({ t with interlocks := table } : State).admission x d := by
  have hypothetical : s.hypothetical x d = t.hypothetical x d := by
    funext l
    rw [State.hypothetical, State.hypothetical, drive, assertion]
  have refuses : ∀ slot : InterlockSlot,
      slot.refuses s x d = slot.refuses ({ t with interlocks := table } : State) x d := fun slot => by
    cases slot with
    | empty => rfl
    | rule r status origin =>
      rw [InterlockSlot.refuses, hypothetical, drive, assertion]
      rfl
  simp only [State.admission, interlocks, refuses]

/-! ### The words of `SessionEnded` part way through the disposition

`t.line m` stands in them for a lower-numbered line once it is disposed of, so each may be read of any state that has
those lines as they will stay. -/

section
variable {s t u : State} {lost : Port} {l : LineId}

theorem State.disposing_congr (same : ∀ m, m < l → t.line m = u.line m) : s.disposing t l = s.disposing u l := by
  unfold State.disposing
  congr 2
  funext m
  by_cases below : m < l
  · rw [if_pos below, if_pos below, same m below]
  · rw [if_neg below, if_neg below]

theorem State.line_disposing (s t : State) (l m : LineId) : (s.disposing t l).line m =
    if m < l then t.line m else if m = l then { s.line l with move := none } else s.line m := by
  rw [State.disposing, State.line, Table.get_ofFn]

/-- R65: the disposition of line `m` abandons its move and leaves the rule `r` unmatched. -/
abbrev State.Frees (s t : State) (lost : Port) (r : Rule) (m : LineId) : Prop :=
  (s.line m).holder = .agent lost ∧ (s.line m).move.isSome = true ∧ r.matchedBy (s.disposing t m).assertion = false

/-- R65: a slot of the interlock table once the lines of `lost` numbered below `k` are disposed of. -/
def State.slotBelow (s t : State) (lost : Port) (k : Nat) (slot : InterlockSlot) : InterlockSlot :=
  match slot with
  | .rule r .reserved origin =>
    if ∃ m : LineId, m.val < k ∧ s.Frees t lost r m then .rule r .occupied origin else .rule r .reserved origin
  | .rule r .occupied origin => .rule r .occupied origin
  | .empty => .empty

/-- R65: the interlock table once the lines of `lost` numbered below `k` are disposed of. -/
def State.tableBelow (s t : State) (lost : Port) (k : Nat) : Vector InterlockSlot 32 :=
  Table.map (s.slotBelow t lost k) s.interlocks

theorem State.tableAt_eq_tableBelow (s t : State) (lost : Port) (l : LineId) :
    s.tableAt t lost l = s.tableBelow t lost (l.val + 1) := by
  unfold State.tableAt State.tableBelow Table.map
  congr 1
  funext k
  change (match s.ruleAt k with | .rule r .reserved origin => _ | .rule r .occupied origin => _ | .empty => _) =
    s.slotBelow t lost (l.val + 1) (s.ruleAt k)
  cases s.ruleAt k with
  | empty => rfl
  | rule r status origin =>
    cases status with
    | occupied => rfl
    | reserved => simp only [State.slotBelow, Nat.lt_succ_iff, Fin.le_def]

theorem State.tableBelow_zero (s t : State) (lost : Port) : s.tableBelow t lost 0 = s.interlocks := by
  refine Table.ext fun k => ?_
  rw [State.tableBelow, Table.get_map]
  cases s.interlocks.get k with
  | empty => rfl
  | rule r status origin => cases status <;> simp [State.slotBelow]

theorem State.tableBelow_congr {k : Nat} (same : ∀ m : LineId, m.val + 1 < k → t.line m = u.line m) :
    s.tableBelow t lost k = s.tableBelow u lost k := by
  have frees : ∀ r m, m.val < k → (s.Frees t lost r m ↔ s.Frees u lost r m) := fun r m below => by
    have disposing : s.disposing t m = s.disposing u m :=
      State.disposing_congr fun j less => same j (Nat.lt_of_le_of_lt less below)
    rw [State.Frees, State.Frees, disposing]
  have slots : s.slotBelow t lost k = s.slotBelow u lost k := by
    funext slot
    cases slot with
    | empty => rfl
    | rule r status origin =>
      cases status with
      | occupied => rfl
      | reserved => simp only [State.slotBelow, exists_congr fun m => and_congr_right (frees r m)]
  rw [State.tableBelow, State.tableBelow, slots]

theorem exists_fin_lt_succ_iff {n : Nat} {p : Fin n → Prop} (l : Fin n) :
    (∃ m : Fin n, m.val < l.val + 1 ∧ p m) ↔ (∃ m : Fin n, m.val < l.val ∧ p m) ∨ p l := by
  constructor
  · rintro ⟨m, below, holds⟩
    obtain less | same := Nat.lt_succ_iff_lt_or_eq.mp below
    · exact .inl ⟨m, less, holds⟩
    · exact .inr (Fin.ext same ▸ holds)
  · rintro (⟨m, less, holds⟩ | holds)
    · exact ⟨m, Nat.lt_succ_of_lt less, holds⟩
    · exact ⟨l, Nat.lt_succ_self _, holds⟩

/-- R65: a line that has no move to abandon changes no slot. -/
theorem State.tableBelow_succ_of_not (t : State)
    (nothing : ¬ ((s.line l).holder = .agent lost ∧ (s.line l).move.isSome = true)) :
    s.tableBelow t lost (l.val + 1) = s.tableBelow t lost l.val := by
  have frees : ∀ r, ¬ s.Frees t lost r l := fun r ⟨held, move, _⟩ => nothing ⟨held, move⟩
  have slots : s.slotBelow t lost (l.val + 1) = s.slotBelow t lost l.val := by
    funext slot
    cases slot with
    | empty => rfl
    | rule r status origin =>
      cases status with
      | occupied => rfl
      | reserved => simp only [State.slotBelow, exists_fin_lt_succ_iff, frees, or_false]
  rw [State.tableBelow, State.tableBelow, slots]

/-- R65: the abandonment of a line's move settles every slot. -/
theorem State.tableBelow_succ_of_move (t : State) (held : (s.line l).holder = .agent lost)
    (move : (s.line l).move.isSome = true) :
    s.tableBelow t lost (l.val + 1) =
      Table.map (fun slot => slot.settle (s.disposing t l).assertion) (s.tableBelow t lost l.val) := by
  refine Table.ext fun k => ?_
  rw [State.tableBelow, State.tableBelow, Table.get_map, Table.get_map, Table.get_map]
  cases s.interlocks.get k with
  | empty => rfl
  | rule r status origin =>
    cases status with
    | occupied => rfl
    | reserved =>
      by_cases before : ∃ m : LineId, m.val < l.val ∧ s.Frees t lost r m
      · simp only [State.slotBelow, exists_fin_lt_succ_iff, before, true_or, if_true, InterlockSlot.settle]
      · have frees : s.Frees t lost r l ↔ r.matchedBy (s.disposing t l).assertion = false := by
          rw [State.Frees, and_iff_right held, and_iff_right move]
        simp only [State.slotBelow, exists_fin_lt_succ_iff, before, false_or, if_false, frees, InterlockSlot.settle]
        cases r.matchedBy (s.disposing t l).assertion <;> rfl

theorem State.parkTarget_congr (same : ∀ m, m < l → t.line m = u.line m) :
    s.parkTarget t lost l = s.parkTarget u lost l := by
  have table : s.tableAt t lost l = s.tableAt u lost l := by
    rw [State.tableAt_eq_tableBelow, State.tableAt_eq_tableBelow,
      State.tableBelow_congr fun m below => same m (Nat.lt_of_succ_lt_succ below)]
  rw [State.parkTarget, State.parkTarget, table, State.disposing_congr same]

theorem LineDisposed.congr (disposed : LineDisposed s t lost l) (same : ∀ m, m ≤ l → t.line m = u.line m) :
    LineDisposed s u lost l := by
  obtain ⟨inherited, parked⟩ := disposed
  have target : s.parkTarget u lost l = s.parkTarget t lost l :=
    State.parkTarget_congr fun m below => (same m (Fin.le_of_lt below)).symm
  refine ⟨fun heir eligible => ?_, fun noHeir => ?_⟩
  · rw [← same l (Fin.le_refl l)]
    exact inherited heir eligible
  · rw [← same l (Fin.le_refl l), target]
    exact parked noHeir

/-- R38: whatever becomes of it, a line of the lost agent is bound to no run. -/
theorem LineDisposed.binding_eq_none (disposed : LineDisposed s t lost l) : (t.line l).binding = none := by
  obtain ⟨inherited, parked⟩ := disposed
  by_cases eligible : ∃ heir, s.Inherits lost l heir
  · obtain ⟨heir, eligible⟩ := eligible
    rw [inherited heir eligible]
    split
    · rw [Line.checkedIn_binding]
    · rfl
  · rw [parked (not_exists.mp eligible)]

end

/-! ### The notices of the heirs (R39, R136) -/

/-- R39, R136: the notices of a line that is inherited; an entry that is pending keeps its first. -/
def LineNotices.postedInherited (x : LineNotices) (lost : Port) (now : LineTime) : LineNotices :=
  { x with inherited := x.inherited <|> some (lost, now) }

/-- R39: the line notices of port `m` once the lines of `lost` numbered below `k` are disposed of. -/
def Live.heirNotices (v : Live) (s : State) (lost m : Port) (k : Nat) : Vector LineNotices 48 :=
  Vector.ofFn fun l =>
    if l.val < k ∧ s.Inherits lost l m then (v.lineNotices.get l).postedInherited lost s.lineTime
    else v.lineNotices.get l

/-- R39: an open session of port `m` once the lines of `lost` numbered below `k` are disposed of. -/
def Live.inheriting (v : Live) (s : State) (lost m : Port) (k : Nat) : Live :=
  { v with lineNotices := v.heirNotices s lost m k }

section
variable (v : Live) (s : State) {lost m : Port} {l : LineId}

theorem Live.get_heirNotices (lost m : Port) (k : Nat) (l : LineId) : (v.heirNotices s lost m k).get l =
    if l.val < k ∧ s.Inherits lost l m then (v.lineNotices.get l).postedInherited lost s.lineTime
    else v.lineNotices.get l := Table.get_ofFn _ l

theorem Live.inheriting_zero : v.inheriting s lost m 0 = v := by
  have notices : v.heirNotices s lost m 0 = v.lineNotices :=
    Table.ext fun l => by rw [Live.get_heirNotices, if_neg fun both => Nat.not_lt_zero _ both.1]
  rw [Live.inheriting, notices]

/-- R39: a line that port `m` does not inherit is not told to it. -/
theorem Live.inheriting_succ_of_not (notHeir : ¬ s.Inherits lost l m) :
    v.inheriting s lost m (l.val + 1) = v.inheriting s lost m l.val := by
  have notices : v.heirNotices s lost m (l.val + 1) = v.heirNotices s lost m l.val := Table.ext fun j => by
    have below : (j.val < l.val + 1 ∧ s.Inherits lost j m) ↔ (j.val < l.val ∧ s.Inherits lost j m) := by
      refine and_congr_left fun inherits => ⟨fun below => ?_, Nat.lt_succ_of_lt⟩
      exact (Nat.lt_succ_iff_lt_or_eq.mp below).resolve_right fun same => notHeir (Fin.ext same ▸ inherits)
    simp only [Live.get_heirNotices, below]
  rw [Live.inheriting, notices, Live.inheriting]

/-- R39: a line that port `m` inherits is posted to it. -/
theorem Live.inheriting_succ_of_inherits (inherits : s.Inherits lost l m) :
    v.inheriting s lost m (l.val + 1) = { v.inheriting s lost m l.val with
      lineNotices := (v.heirNotices s lost m l.val).set l
        (((v.heirNotices s lost m l.val).get l).postedInherited lost s.lineTime) } := by
  have notices : v.heirNotices s lost m (l.val + 1) = (v.heirNotices s lost m l.val).set l
      (((v.heirNotices s lost m l.val).get l).postedInherited lost s.lineTime) := Table.ext fun j => by
    rw [Table.get_set, Live.get_heirNotices, Live.get_heirNotices, Live.get_heirNotices]
    by_cases same : j = l
    · rw [if_pos same, same, if_pos ⟨Nat.lt_succ_self _, inherits⟩, if_neg fun both => Nat.lt_irrefl _ both.1]
    · have below : j.val < l.val + 1 ↔ j.val < l.val := by
        rw [Nat.lt_succ_iff_lt_or_eq, or_iff_left fun e => same (Fin.ext e)]
      simp only [if_neg same, below]
  rw [Live.inheriting, notices, Live.inheriting]

/-- R39, R106: what the end of a session tells an open one: the lines it inherits, and the loss. -/
theorem Live.bereaved_eq (cause : EndCause) :
    v.bereaved s lost m cause = (v.inheriting s lost m 48).told lost cause s.lineTime := by
  unfold Live.bereaved Live.told Live.inheriting Live.heirNotices
  congr 2
  funext l
  have below : l.val < 48 := l.isLt
  by_cases inherits : s.Inherits lost l m
  · rw [if_pos inherits, if_pos ⟨below, inherits⟩, LineNotices.postedInherited]
    cases (v.lineNotices.get l).inherited <;> rfl
  · rw [if_neg inherits, if_neg fun both => inherits both.2]

end

/-! ### What the disposition leaves as it is -/

/-- Only what the disposition writes differs: lines, the interlock table, runs, session records and attention outputs. -/
def State.SameButDisposal (s t : State) : Prop :=
  t = { s with lines := t.lines, interlocks := t.interlocks, slots := t.slots, sessions := t.sessions,
               attention := t.attention }

section
variable {s t u : State}

theorem State.SameButDisposal.refl (s : State) : s.SameButDisposal s := rfl

theorem State.SameButDisposal.trans (h : s.SameButDisposal t) (k : t.SameButDisposal u) : s.SameButDisposal u := by
  unfold State.SameButDisposal at *
  rw [k, h]

theorem State.SameButLines.sameButDisposal (h : s.SameButLines t) : s.SameButDisposal t := by
  unfold State.SameButLines at h
  unfold State.SameButDisposal
  rw [h]

theorem State.SameButNotices.sameButDisposal (h : s.SameButNotices t) : s.SameButDisposal t := by
  unfold State.SameButNotices at h
  unfold State.SameButDisposal
  rw [h]

theorem State.SameButDisposal.lineTime (h : s.SameButDisposal t) : t.lineTime = s.lineTime := by
  unfold State.SameButDisposal at h
  rw [h]

theorem State.SameButLines.slots (h : s.SameButLines t) : t.slots = s.slots := by
  unfold State.SameButLines at h
  rw [h]

theorem State.SameButLines.sessions (h : s.SameButLines t) : t.sessions = s.sessions := by
  unfold State.SameButLines at h
  rw [h]

theorem State.SameButLines.attention (h : s.SameButLines t) : t.attention = s.attention := by
  unfold State.SameButLines at h
  rw [h]

theorem State.SameButLines.lineTime (h : s.SameButLines t) : t.lineTime = s.lineTime := by
  unfold State.SameButLines at h
  rw [h]

theorem State.SameButNotices.lines (h : s.SameButNotices t) : t.lines = s.lines := by
  unfold State.SameButNotices at h
  rw [h]

theorem State.SameButNotices.slots (h : s.SameButNotices t) : t.slots = s.slots := by
  unfold State.SameButNotices at h
  rw [h]

theorem State.SameButNotices.interlocks (h : s.SameButNotices t) : t.interlocks = s.interlocks := by
  unfold State.SameButNotices at h
  rw [h]

theorem State.SameButNotices.pendingList (h : s.SameButNotices t) : t.pendingList = s.pendingList := by
  unfold State.SameButNotices at h
  rw [h]

theorem State.SameButNotices.wakeWatches (h : s.SameButNotices t) : t.wakeWatches = s.wakeWatches := by
  unfold State.SameButNotices at h
  rw [h]

theorem State.SameButDisposal.pendingList (h : s.SameButDisposal t) : t.pendingList = s.pendingList := by
  unfold State.SameButDisposal at h
  rw [h]

theorem State.SameButDisposal.wakeWatches (h : s.SameButDisposal t) : t.wakeWatches = s.wakeWatches := by
  unfold State.SameButDisposal at h
  rw [h]

theorem State.dropRun_same (s : State) (k : SlotId) : s.SameButDisposal (s.dropRun k) := by
  unfold State.SameButDisposal State.dropRun State.unbind
  rfl

theorem State.session_dropRun (s : State) (k : SlotId) (m : Port) : (s.dropRun k).session m = s.session m := by
  rw [State.session, State.dropRun, State.setRun_sessions, State.unbind_sessions, State.session]

theorem State.haltLost_same (s : State) (l : LineId) : s.SameButDisposal (s.haltLost l) := by
  unfold State.haltLost
  cases (s.line l).binding with
  | none => exact State.SameButDisposal.refl s
  | some k => exact State.dropRun_same s k

end

/-! ### The disposition, line by line (R38) -/

/-- R38: what `u` is to `s` once the lines of agent `lost` numbered below `k` are disposed of. The line records ahead
differ at most in their bindings, and a binding is gone exactly where the run is. -/
structure State.DisposedTo (s u : State) (lost : Port) (k : Nat) : Prop where
  frame : s.SameButDisposal u
  disposed : ∀ l : LineId, l.val < k → (s.line l).holder = .agent lost → LineDisposed s u lost l
  rest : ∀ l : LineId, k ≤ l.val ∨ (s.line l).holder ≠ .agent lost →
    u.line l = { s.line l with binding := (u.line l).binding }
  binding : ∀ l : LineId, (u.line l).binding = (s.line l).binding.filter fun j => (u.run j).isSome
  runs : ∀ j : SlotId, u.run j = s.run j ∨ (u.run j = none ∧ ∃ r ∈ s.run j, r.agent = lost)
  table : u.interlocks = s.tableBelow u lost k
  sessions : ∀ m : Port, u.session m =
    { s.session m with live := (s.live m).map fun v => v.inheriting s lost m k }
  attention : ∀ m : Port, s.live m = none → u.attention.get m = s.attention.get m

section
variable {s u : State} {lost : Port} {k : Nat} {l : LineId}

/-- R113: a line bound to a slot is held by the agent of its run. -/
theorem State.Coherent.run_of_binding (coherent : s.Coherent) {j : SlotId} (bound : (s.line l).binding = some j) :
    ∃ r ∈ s.run j, (s.line l).holder = .agent r.agent := by
  obtain ⟨-, ⟨bindings, -⟩, -⟩ := coherent
  obtain ⟨-, r, run, held, -⟩ := bindings l j bound
  exact ⟨r, run, held⟩

theorem State.DisposedTo.start (coherent : s.Coherent) (lost : Port) : s.DisposedTo s lost 0 where
  frame := State.SameButDisposal.refl s
  disposed _ below := absurd below (Nat.not_lt_zero _)
  rest _ _ := rfl
  binding l := by
    cases bound : (s.line l).binding with
    | none => rfl
    | some j =>
      obtain ⟨r, run, -⟩ := coherent.run_of_binding bound
      rw [Option.filter_some, run, Option.isSome_some, if_pos rfl]
  runs _ := .inl rfl
  table := (State.tableBelow_zero s s lost).symm
  sessions m := by simp [Live.inheriting_zero, State.live]
  attention _ _ := rfl

namespace State.DisposedTo

theorem live (d : s.DisposedTo u lost k) (m : Port) :
    u.live m = (s.live m).map fun v => v.inheriting s lost m k := by rw [State.live, d.sessions m]

theorem isOpen (d : s.DisposedTo u lost k) (m : Port) : u.isOpen m = s.isOpen m := by
  rw [State.isOpen, d.live m, Option.isSome_map, State.isOpen]

/-- R38, R113: a line of another holder is left as it is, its binding too: the runs that go are the lost agent's. -/
theorem line_of_other (d : s.DisposedTo u lost k) (coherent : s.Coherent)
    (other : (s.line l).holder ≠ .agent lost) : u.line l = s.line l := by
  have binding : (u.line l).binding = (s.line l).binding := by
    rw [d.binding l]
    cases bound : (s.line l).binding with
    | none => rfl
    | some j =>
      obtain ⟨r, run, held⟩ := coherent.run_of_binding bound
      obtain kept | ⟨-, r', run', lostAgent⟩ := d.runs j
      · rw [Option.filter_some, kept, run, Option.isSome_some, if_pos rfl]
      · obtain rfl : r = r' := Option.some.inj (run.symm.trans run')
        exact absurd (lostAgent ▸ held) other
  rw [d.rest l (.inr other), binding]

theorem holder_eq_iff (d : s.DisposedTo u lost k) (ahead : k ≤ l.val) :
    (u.line l).holder = .agent lost ↔ (s.line l).holder = .agent lost := by rw [d.rest l (.inl ahead)]

/-- The end of one of the lost agent's runs unbinds no line that is disposed of already, nor any of another holder. -/
theorem line_dropRun_of_lt (d : s.DisposedTo u lost k) (coherent : s.Coherent) {j : SlotId}
    (agent : ∃ r ∈ s.run j, r.agent = lost) (below : l.val < k) : (u.dropRun j).line l = u.line l := by
  have notBound : (u.line l).binding ≠ some j := fun bound => by
    by_cases held : (s.line l).holder = .agent lost
    · rw [(d.disposed l below held).binding_eq_none] at bound
      cases bound
    · rw [d.line_of_other coherent held] at bound
      obtain ⟨r, run, holder⟩ := coherent.run_of_binding bound
      obtain ⟨r', run', lostAgent⟩ := agent
      obtain rfl : r = r' := Option.some.inj (run.symm.trans run')
      exact held (lostAgent ▸ holder)
  rw [State.line_dropRun, if_neg notBound]

/-- R123: the end of one of the lost agent's runs, part way through. -/
theorem dropRun (d : s.DisposedTo u lost k) (coherent : s.Coherent) {j : SlotId}
    (agent : ∃ r ∈ s.run j, r.agent = lost) : s.DisposedTo (u.dropRun j) lost k where
  frame := d.frame.trans (State.dropRun_same u j)
  disposed l below held := (d.disposed l below held).congr fun m le =>
    (d.line_dropRun_of_lt coherent agent (Nat.lt_of_le_of_lt le below)).symm
  rest l ahead := by
    rw [State.line_dropRun, d.rest l ahead]
  binding l := by
    rw [State.line_dropRun]
    simp only [d.binding l, State.run_dropRun]
    cases (s.line l).binding with
    | none => rfl
    | some i =>
      by_cases same : i = j
      · cases (u.run i).isSome <;> simp [same, Option.filter_some]
      · simp [same, Option.filter_some]
  runs i := by
    rw [State.run_dropRun]
    by_cases same : i = j
    · rw [if_pos same, same]
      exact .inr ⟨rfl, agent⟩
    · rw [if_neg same]
      exact d.runs i
  table := by
    rw [State.dropRun, State.setRun_interlocks, State.unbind_interlocks, d.table]
    exact State.tableBelow_congr fun m below =>
      (d.line_dropRun_of_lt coherent agent (Nat.lt_of_succ_lt below)).symm
  sessions m := by rw [State.session_dropRun, d.sessions m]
  attention m closed := by rw [State.dropRun, State.setRun_attention, State.unbind_attention, d.attention m closed]

/-- R38, step 1: the run that binds a line of the lost agent is the lost agent's. -/
theorem haltLost (d : s.DisposedTo u lost k) (coherent : s.Coherent) (held : (s.line l).holder = .agent lost) :
    s.DisposedTo (u.haltLost l) lost k := by
  unfold State.haltLost
  cases bound : (u.line l).binding with
  | none => exact d
  | some j =>
    have wasBound : (s.line l).binding = some j :=
      (Option.filter_eq_some_iff.mp ((d.binding l).symm.trans bound)).1
    obtain ⟨r, run, holder⟩ := coherent.run_of_binding wasBound
    exact d.dropRun coherent ⟨r, run, Holder.agent.inj (holder.symm.trans held)⟩

end State.DisposedTo

theorem State.line_haltLost (u : State) (l : LineId) : (u.haltLost l).line l = { u.line l with binding := none } := by
  cases bound : (u.line l).binding with
  | none =>
    have unchanged : u.haltLost l = u := by rw [State.haltLost, bound]
    rw [unchanged, ← bound]
  | some j => rw [State.haltLost, bound, State.line_dropRun, if_pos bound]

end

/-! ### One line of the disposition (R38 to R40) -/

theorem State.dispose_of_other {u : State} {lost : Port} {l : LineId} (other : (u.line l).holder ≠ .agent lost) :
    State.dispose lost l u = u := by rw [State.dispose, if_neg other]

/-- R39: a line of the lost agent, its run halted and its move abandoned, goes to its eligible heir. -/
theorem State.dispose_of_heir {u : State} {lost heir : Port} {l : LineId} (held : (u.line l).holder = .agent lost)
    (eligible : ((u.haltLost l).abandon l).eligibleHeir lost l = some heir) :
    State.dispose lost l u =
      ((u.haltLost l).abandon l).inherit_ lost heir l (decide ((u.line l).state = .moving)) := by
  rw [State.dispose, if_pos held]
  simp only [eligible]

/-- R40: a line of the lost agent with no eligible heir, its run halted and its move abandoned, is parked. -/
theorem State.dispose_of_noHeir {u : State} {lost : Port} {l : LineId} (held : (u.line l).holder = .agent lost)
    (noHeir : ((u.haltLost l).abandon l).eligibleHeir lost l = none) :
    State.dispose lost l u = ((u.haltLost l).abandon l).park l := by
  rw [State.dispose, if_pos held]
  simp only [noHeir]

theorem State.eligibleHeir_eq_some_iff {s : State} {lost heir : Port} {l : LineId} :
    s.eligibleHeir lost l = some heir ↔ (s.line l).heir = some heir ∧ heir ≠ lost ∧ s.isOpen heir = true := by
  unfold State.eligibleHeir
  cases (s.line l).heir with
  | none => simp
  | some h =>
    change (if h ≠ lost ∧ s.isOpen h = true then some h else none) = some heir ↔ _
    by_cases eligible : h ≠ lost ∧ s.isOpen h = true
    · rw [if_pos eligible, Option.some.injEq]
      exact ⟨fun same => ⟨same, same ▸ eligible⟩, And.left⟩
    · rw [if_neg eligible]
      exact ⟨nofun, fun ⟨same, both⟩ => absurd (Option.some.inj same ▸ both) eligible⟩

/-- A line of the lost agent as it goes to an heir or is parked: its binding and its move are gone. -/
def Line.loosened (ln : Line) : Line := { ln with binding := none, move := none }

theorem Line.released_loosened (ln : Line) (reason : FreeReason) (t : Drive) (now : LineTime) :
    ln.loosened.released reason t now = { ln.released reason t now with binding := none } := rfl

/-- R38, steps 1 and 2: `v` is `s` with the lines of `lost` below `l` disposed of and the run that binds `l` halted. -/
structure State.DisposesNext (s v : State) (lost : Port) (l : LineId) : Prop where
  upTo : s.DisposedTo v lost l.val
  held : (s.line l).holder = .agent lost
  unbound : (v.line l).binding = none

namespace State.DisposesNext

variable {s v x : State} {lost : Port} {l : LineId}

theorem line_eq (d : s.DisposesNext v lost l) : v.line l = { s.line l with binding := none } := by
  rw [d.upTo.rest l (.inl (Nat.le_refl _)), d.unbound]

theorem line_abandon (d : s.DisposesNext v lost l) : (v.abandon l).line l = (s.line l).loosened := by
  rw [State.line_abandon, if_pos rfl, d.line_eq]
  rfl

/-- R38, R51: what the lines assert as line `l` comes to its heir or its fallback. -/
theorem assertion_abandon (d : s.DisposesNext v lost l) : (v.abandon l).assertion = (s.disposing v l).assertion := by
  funext m
  rw [State.assertion, State.assertion, State.line_disposing, State.line_abandon]
  by_cases same : m = l
  · rw [if_pos same, same, if_neg (Fin.lt_irrefl l), if_pos rfl, d.line_eq]
    rfl
  · rw [if_neg same, if_neg same]
    by_cases below : m < l
    · rw [if_pos below]
    · rw [if_neg below, d.upTo.rest m (.inl (Nat.le_of_not_lt below))]
      rfl

/-- R65: the interlock table as line `l` comes to its heir or its fallback. -/
theorem interlocks_abandon (d : s.DisposesNext v lost l) : (v.abandon l).interlocks = s.tableAt v lost l := by
  rw [State.tableAt_eq_tableBelow, State.interlocks_abandon, d.assertion_abandon, d.upTo.table, d.line_eq]
  by_cases move : (s.line l).move.isSome = true
  · rw [if_pos move, State.tableBelow_succ_of_move v d.held move]
  · rw [if_neg move, State.tableBelow_succ_of_not v fun both => move both.2]

theorem session_abandon (d : s.DisposesNext v lost l) (m : Port) : (v.abandon l).session m =
    { s.session m with live := (s.live m).map fun w => w.inheriting s lost m l.val } := by
  rw [State.session, (State.abandon_same v l).sessions, ← d.upTo.sessions m, State.session]

theorem eligibleHeir_eq_some_iff (d : s.DisposesNext v lost l) {heir : Port} :
    (v.abandon l).eligibleHeir lost l = some heir ↔ s.Inherits lost l heir := by
  have isOpen : (v.abandon l).isOpen heir = s.isOpen heir := by
    rw [← d.upTo.isOpen heir, State.isOpen, State.live, State.session, (State.abandon_same v l).sessions]
    rfl
  rw [State.eligibleHeir_eq_some_iff, d.line_abandon, isOpen, State.Inherits, and_iff_right d.held]
  rfl

/-- Once line `l` is written as R39 or R40 asks, the disposition has come one line further. -/
theorem disposedTo (d : s.DisposesNext v lost l) (frame : v.SameButDisposal x)
    (disposed : LineDisposed s x lost l) (others : ∀ m, m ≠ l → x.line m = v.line m)
    (table : x.interlocks = s.tableAt v lost l) (slots : x.slots = v.slots)
    (sessions : ∀ m, x.session m = { s.session m with
      live := (s.live m).map fun w => w.inheriting s lost m (l.val + 1) })
    (attention : ∀ m, s.live m = none → x.attention.get m = v.attention.get m) :
    s.DisposedTo x lost (l.val + 1) where
  frame := d.upTo.frame.trans frame
  disposed m below held := by
    obtain less | same := Nat.lt_succ_iff_lt_or_eq.mp below
    · refine (d.upTo.disposed m less held).congr fun j le => (others j ?_).symm
      exact Fin.ne_of_lt (Nat.lt_of_le_of_lt le less)
    · exact Fin.ext same ▸ disposed
  rest m ahead := by
    have other : m ≠ l := by
      rintro rfl
      exact ahead.elim (Nat.not_succ_le_self _) (absurd d.held)
    rw [others m other]
    exact d.upTo.rest m (ahead.imp_left Nat.le_of_succ_le)
  binding m := by
    have same : (x.line m).binding = (v.line m).binding := by
      by_cases same : m = l
      · rw [same, disposed.binding_eq_none, d.unbound]
      · rw [others m same]
    rw [same, d.upTo.binding m]
    simp only [State.run, slots]
  runs j := by
    rw [State.run, slots]
    exact d.upTo.runs j
  table := by
    rw [table, State.tableAt_eq_tableBelow]
    refine State.tableBelow_congr fun m below => (others m ?_).symm
    exact Fin.ne_of_lt (Nat.lt_of_succ_lt_succ below)
  sessions := sessions
  attention m closed := (attention m closed).trans (d.upTo.attention m closed)

/-- R39: the eligible heir takes the line, and is told. -/
theorem disposedTo_inherit (d : s.DisposesNext v lost l) {heir : Port} (inherits : s.Inherits lost l heir) :
    s.DisposedTo ((v.abandon l).inherit_ lost heir l (decide ((s.line l).state = .moving))) lost (l.val + 1) := by
  have lines : (v.abandon l).SameButLines ((v.abandon l).inheritLine heir l (decide ((s.line l).state = .moving))) :=
    State.inheritLine_same _ heir l _
  have abandoned : v.SameButLines (v.abandon l) := State.abandon_same v l
  rw [State.inherit_eq]
  generalize inherited : (v.abandon l).inheritLine heir l (decide ((s.line l).state = .moving)) = y at lines
  have notices : y.SameButNotices (y.postInherited heir l lost) := State.modifyNotices_same y heir _
  have line : ∀ m, (y.postInherited heir l lost).line m = y.line m := fun m => by
    rw [State.line, notices.lines, State.line]
  have lineTime : y.lineTime = s.lineTime := lines.lineTime.trans (abandoned.lineTime.trans d.upTo.frame.lineTime)
  refine d.disposedTo ((abandoned.trans lines).sameButDisposal.trans notices.sameButDisposal) ?_ (fun m other => ?_)
    ?_ ?_ (fun m => ?_) (fun m closed => ?_)
  · refine ⟨fun other eligible => ?_, fun noHeir => absurd inherits (noHeir heir)⟩
    obtain rfl : heir = other := Option.some.inj (inherits.2.1.symm.trans eligible.2.1)
    rw [line, ← inherited, State.line_inheritLine, d.line_abandon, abandoned.lineTime, d.upTo.frame.lineTime]
    simp only [decide_eq_true_eq]
    rfl
  · rw [line, ← inherited, State.line_inheritLine_other _ _ _ _ other, State.line_abandon, if_neg other]
  · rw [notices.interlocks, ← inherited, State.interlocks_inheritLine, d.interlocks_abandon]
  · rw [notices.slots, lines.slots, abandoned.slots]
  · have session : ∀ j, y.session j =
        { s.session j with live := (s.live j).map fun w => w.inheriting s lost j l.val } := fun j => by
      rw [State.session, lines.sessions, ← d.session_abandon j, State.session]
    rw [State.postInherited, State.postLine, State.session_modifyNotices]
    by_cases same : m = heir
    · rw [if_pos same, ← same, State.live, session, Option.map_map, lineTime]
      simp only [Live.inheriting_succ_of_inherits _ s (same ▸ inherits)]
      rfl
    · have notHeir : ¬ s.Inherits lost l m := fun other =>
        same (Option.some.inj (other.2.1.symm.trans inherits.2.1))
      rw [if_neg same, session]
      simp only [Live.inheriting_succ_of_not _ s notHeir]
  · have notHeir : m ≠ heir := by
      rintro rfl
      simpa [State.isOpen, closed] using inherits.2.2.2
    rw [State.postInherited, State.postLine, State.attention_modifyNotices, if_neg notHeir, lines.attention,
      abandoned.attention]

/-- R40: without an eligible heir the line is parked. -/
theorem disposedTo_park (d : s.DisposesNext v lost l) (noHeir : ∀ heir, ¬ s.Inherits lost l heir) :
    s.DisposedTo ((v.abandon l).park l) lost (l.val + 1) := by
  have abandoned : v.SameButLines (v.abandon l) := State.abandon_same v l
  have parked : (v.abandon l).SameButLines ((v.abandon l).park l) := State.beginRelease_same _ l _ _
  have others : ∀ m, m ≠ l → ((v.abandon l).park l).line m = v.line m := fun m other => by
    rw [State.park, State.line_beginRelease_other _ _ _ other, State.line_abandon, if_neg other]
  have target : (v.abandon l).fallbackOrFloat l = s.parkTarget ((v.abandon l).park l) lost l := by
    have static : ((v.abandon l).line l).static = (s.line l).static := by
      rw [d.line_abandon]
      rfl
    rw [State.parkTarget_congr fun m below => others m (Fin.ne_of_lt below)]
    have drive : ((v.abandon l).line l).drive = ((s.disposing v l).line l).drive := by
      rw [d.line_abandon, State.line_disposing, if_neg (Fin.lt_irrefl l), if_pos rfl, Line.loosened]
    simp only [State.fallbackOrFloat, State.parkTarget, static,
      State.admission_congr d.assertion_abandon drive d.interlocks_abandon]
  refine d.disposedTo (abandoned.trans parked).sameButDisposal ?_ others ?_ ?_ (fun m => ?_) (fun m _ => ?_)
  · refine ⟨fun heir eligible => absurd eligible (noHeir heir), fun _ => ?_⟩
    rw [State.line_park, target, d.line_abandon, abandoned.lineTime, d.upTo.frame.lineTime,
      Line.released_loosened]
  · rw [State.interlocks_park, d.interlocks_abandon]
    rw [d.line_abandon]
    rfl
  · rw [parked.slots, abandoned.slots]
  · rw [State.session, parked.sessions, ← State.session, d.session_abandon]
    simp only [Live.inheriting_succ_of_not _ s (noHeir m)]
  · rw [parked.attention, abandoned.attention]

end State.DisposesNext

section
variable {s u : State} {lost : Port}

/-- R38: a line of another holder is passed over. -/
theorem State.DisposedTo.pass_other {l : LineId} (d : s.DisposedTo u lost l.val)
    (other : (s.line l).holder ≠ .agent lost) : s.DisposedTo u lost (l.val + 1) where
  frame := d.frame
  disposed m below held := by
    obtain less | same := Nat.lt_succ_iff_lt_or_eq.mp below
    · exact d.disposed m less held
    · exact absurd (Fin.ext same ▸ held) other
  rest m ahead := d.rest m (ahead.imp_left Nat.le_of_succ_le)
  binding := d.binding
  runs := d.runs
  table := by rw [State.tableBelow_succ_of_not u fun both => other both.1, d.table]
  sessions m := by
    simp only [Live.inheriting_succ_of_not _ s fun inherits : s.Inherits lost l m => other inherits.1, d.sessions m]
  attention := d.attention

theorem State.DisposedTo.dispose {l : LineId} (d : s.DisposedTo u lost l.val) (coherent : s.Coherent) :
    s.DisposedTo (State.dispose lost l u) lost (l.val + 1) := by
  have holder := d.holder_eq_iff (Nat.le_refl l.val)
  by_cases held : (s.line l).holder = .agent lost
  · have next : s.DisposesNext (u.haltLost l) lost l :=
      ⟨d.haltLost coherent held, held, by rw [State.line_haltLost]⟩
    have state : (u.line l).state = (s.line l).state := by rw [d.rest l (.inl (Nat.le_refl _))]
    cases eligible : ((u.haltLost l).abandon l).eligibleHeir lost l with
    | some heir =>
      rw [State.dispose_of_heir (holder.mpr held) eligible, state]
      exact next.disposedTo_inherit (next.eligibleHeir_eq_some_iff.mp eligible)
    | none =>
      rw [State.dispose_of_noHeir (holder.mpr held) eligible]
      refine next.disposedTo_park fun heir inherits => ?_
      rw [next.eligibleHeir_eq_some_iff.mpr inherits] at eligible
      cases eligible
  · rw [State.dispose_of_other (mt holder.mp held)]
    exact d.pass_other held

/-- One operation on every line in line order, with an invariant that says how far it has come. -/
theorem State.forLines_allLines {op : LineId → State → State} {reached : Nat → State → Prop}
    (step : ∀ (l : LineId) (u : State), reached l.val u → reached (l.val + 1) (op l u)) (start : reached 0 s) :
    reached 48 (State.forLines op allLines s) := by
  have suffix : ∀ (k : Nat) (u : State), k ≤ 48 → reached k u → reached 48 (State.forLines op (allLines.drop k) u) := by
    intro k
    induction h : 48 - k generalizing k with
    | zero =>
      intro u le atK
      obtain rfl : k = 48 := by omega
      exact atK
    | succ j ih =>
      intro u le atK
      have inRange : k < allLines.length := by rw [allLines, List.length_finRange]; omega
      rw [List.drop_eq_getElem_cons inRange, State.forLines]
      refine ih (k + 1) (by omega) _ (by omega) ?_
      have line : allLines[k] = (⟨k, by omega⟩ : LineId) := by simp [allLines]
      rw [line]
      exact step ⟨k, by omega⟩ u atK
  exact suffix 0 s (Nat.zero_le _) start

/-- R38: the whole disposition. -/
theorem State.disposedTo_disposeAll (coherent : s.Coherent) (lost : Port) : s.DisposedTo (s.disposeAll lost) lost 48 :=
  State.forLines_allLines (reached := fun k u => s.DisposedTo u lost k) (fun _ _ d => d.dispose coherent)
    (State.DisposedTo.start coherent lost)

end

/-! ### The end of a session (R105) -/

theorem Line.checkedIn_observed (ln : Line) (now : LineTime) : (ln.checkedIn now).observed = ln.observed := by
  unfold Line.checkedIn
  split <;> rfl

theorem Line.released_observed (ln : Line) (reason : FreeReason) (t : Drive) (now : LineTime) :
    (ln.released reason t now).observed = ln.observed := rfl

/-- R38: the disposition commands pads; what a line is sensed at stays as it was. -/
theorem LineDisposed.observed_eq {s t : State} {lost : Port} {l : LineId} (disposed : LineDisposed s t lost l) :
    (t.line l).observed = (s.line l).observed := by
  obtain ⟨inherited, parked⟩ := disposed
  by_cases eligible : ∃ heir, s.Inherits lost l heir
  · obtain ⟨heir, eligible⟩ := eligible
    rw [inherited heir eligible]
    split
    · rw [Line.checkedIn_observed]
    · rfl
  · rw [parked (not_exists.mp eligible), Line.released_observed]

namespace State.DisposedTo

variable {s d : State} {lost : Port}

theorem line_observed (disposal : s.DisposedTo d lost 48) (coherent : s.Coherent) (l : LineId) :
    (d.line l).observed = (s.line l).observed := by
  by_cases held : (s.line l).holder = .agent lost
  · exact (disposal.disposed l l.isLt held).observed_eq
  · rw [disposal.line_of_other coherent held]

theorem run_none (disposal : s.DisposedTo d lost 48) {k : SlotId} (idle : s.run k = none) : d.run k = none := by
  obtain kept | ⟨gone, -⟩ := disposal.runs k
  · exact kept.trans idle
  · exact gone

theorem run_of_other (disposal : s.DisposedTo d lost 48) {k : SlotId} {r : Run} (run : s.run k = some r)
    (other : r.agent ≠ lost) : d.run k = some r := by
  obtain kept | ⟨-, r', run', lostAgent⟩ := disposal.runs k
  · exact kept.trans run
  · obtain rfl : r = r' := Option.some.inj (run.symm.trans run')
    exact absurd lostAgent other

/-- R38, R123: each run of the lost agent that has a line ends, for the agent holds its lines and they are unbound. -/
theorem run_of_lost (disposal : s.DisposedTo d lost 48) (coherent : s.Coherent) {k : SlotId} {r : Run}
    (run : s.run k = some r) (agent : r.agent = lost) (lines : s.lineSet r.sequence ≠ []) : d.run k = none := by
  obtain ⟨l, inSet⟩ := List.exists_mem_of_ne_nil _ lines
  obtain ⟨-, ⟨-, runs⟩, -⟩ := id coherent
  have bound : (s.line l).binding = some k := runs k r run l inSet
  obtain ⟨r', run', held⟩ := coherent.run_of_binding bound
  obtain rfl : r = r' := Option.some.inj (run.symm.trans run')
  have gone := (disposal.binding l).symm.trans (disposal.disposed l l.isLt (agent ▸ held)).binding_eq_none
  rw [bound, Option.filter_some] at gone
  simpa using gone

end State.DisposedTo

/-- R87, R144: what a session's end does between the disposition and the telling of the loss. -/
def State.ending (d : State) (n : Port) : State := (d.dropEntries n).activateWakes n

theorem State.endSession_of_open {s : State} {n : Port} (isOpen : s.isOpen n = true) (cause : EndCause) :
    s.endSession n cause = (((s.disposeAll n).ending n).tellLoss n cause).closeRecord n cause := by
  rw [State.endSession, if_pos isOpen, State.ending]

section
variable (d : State) (n : Port)

@[simp] theorem State.ending_session (m : Port) : (d.ending n).session m = d.session m := rfl

@[simp] theorem State.ending_live (m : Port) : (d.ending n).live m = d.live m := rfl

@[simp] theorem State.ending_attention : (d.ending n).attention = d.attention := rfl

@[simp] theorem State.ending_lineTime : (d.ending n).lineTime = d.lineTime := rfl

@[simp] theorem State.ending_lines : (d.ending n).lines = d.lines := rfl

@[simp] theorem State.ending_slots : (d.ending n).slots = d.slots := rfl

@[simp] theorem State.ending_interlocks : (d.ending n).interlocks = d.interlocks := rfl

theorem State.ending_pendingList :
    (d.ending n).pendingList = d.pendingList.filter fun e => decide (e.agent ≠ n) := rfl

theorem State.ending_wakeWatches : (d.ending n).wakeWatches = d.wakeWatches.map fun w =>
    if w.target = n then { w with view := some { filtered := (d.line w.line).observed, candidate := none } } else w := rfl

theorem State.ending_eq : d.ending n =
    { d with pendingList := (d.ending n).pendingList, wakeWatches := (d.ending n).wakeWatches } := rfl

end

/-- The fields that the end of a session leaves as they are, by what its parts leave. -/
theorem State.SameButDisposal.ended {s d t : State} {n : Port} (disposal : s.SameButDisposal d)
    (notices : (d.ending n).SameButNotices t) :
    t = { s with lines := t.lines, interlocks := t.interlocks, sessions := t.sessions, attention := t.attention,
                 pendingList := t.pendingList, slots := t.slots, wakeWatches := t.wakeWatches } := by
  unfold State.SameButDisposal at disposal
  unfold State.SameButNotices at notices
  rw [notices, State.ending_eq, disposal]

section
variable {s : State} {n : Port}

/-- R39, R106: what another port's record and attention output are once the session of `n` has ended. -/
theorem State.endSession_other (isOpen : s.isOpen n = true) (coherent : s.Coherent) (cause : EndCause) {m : Port}
    (other : m ≠ n) :
    (s.endSession n cause).session m =
        { s.session m with live := (s.live m).map fun v => v.bereaved s n m cause } ∧
      (s.endSession n cause).attention.get m = match s.live m with
        | none => s.attention.get m
        | some v => (v.bereaved s n m cause).alerts := by
  have disposal := State.disposedTo_disposeAll coherent n
  rw [State.endSession_of_open isOpen, State.session_closeRecord, if_neg other, State.attention_closeRecord,
    if_neg other, State.session_tellLoss other, State.attention_tellLoss other, State.ending_live, State.ending_session,
    State.ending_lineTime, State.ending_attention, disposal.live m, disposal.sessions m, disposal.frame.lineTime]
  cases live : s.live m with
  | none => simp only [Option.map_none, disposal.attention m live, and_self]
  | some v => simp only [Option.map_some, Live.bereaved_eq, and_self]

/-- R105: an open session that ends does so as stated. -/
theorem State.sessionEnded_endSession (isOpen : s.isOpen n = true) (coherent : s.Coherent) (cause : EndCause) :
    SessionEnded s (s.endSession n cause) n cause := by
  have disposal := State.disposedTo_disposeAll coherent n
  have own : (s.endSession n cause).session n = { s.session n with lastEnd := cause, live := none } := by
    rw [State.endSession_of_open isOpen, State.session_closeRecord, if_pos rfl, State.session_tellLoss_lost,
      State.ending_session, disposal.sessions n]
  have low : (s.endSession n cause).attention.get n = false := by
    rw [State.endSession_of_open isOpen, State.attention_closeRecord, if_pos rfl]
  have others := fun (m : Port) (other : m ≠ n) => State.endSession_other isOpen coherent cause other
  have notices : ((s.disposeAll n).ending n).SameButNotices (s.endSession n cause) := by
    rw [State.endSession_of_open isOpen]
    exact (State.tellLoss_same _ n cause).trans (State.closeRecord_same _ n cause)
  generalize s.endSession n cause = t at own low others notices
  generalize s.disposeAll n = d at disposal notices
  have lines : ∀ l, t.line l = d.line l := fun l => by
    rw [State.line, notices.lines, State.ending_lines, State.line]
  have runs : ∀ k, t.run k = d.run k := fun k => by
    rw [State.run, notices.slots, State.ending_slots, State.run]
  refine ⟨own, low, others, fun l other => ?_, fun l held => ?_, ?_, ?_, fun k idle => ?_, fun k r run other => ?_,
    fun k r run agent set => ?_, ?_, disposal.frame.ended notices⟩
  · rw [lines, disposal.line_of_other coherent other]
  · exact (disposal.disposed l l.isLt held).congr fun m _ => (lines m).symm
  · rw [notices.interlocks, State.ending_interlocks, State.tableAt_eq_tableBelow]
    exact disposal.table.trans (State.tableBelow_congr fun m _ => (lines m).symm)
  · rw [notices.pendingList, State.ending_pendingList, disposal.frame.pendingList]
  · rw [runs, disposal.run_none idle]
  · rw [runs, disposal.run_of_other run other]
  · rw [runs, disposal.run_of_lost coherent run agent set]
  · rw [notices.wakeWatches, State.ending_wakeWatches, disposal.frame.wakeWatches]
    simp only [disposal.line_observed coherent]

end

/-! ### The period deadline (R94, R95) -/

theorem exec_periodDeadline (n : Port) (s : State) : exec (.periodDeadline n) s = execPeriodDeadline n s := rfl

section
variable {s : State} {n : Port} {v : Live}

theorem exec_periodDeadline_of_due (live : s.live n = some v) (due : v.deadline = s.lineTime) :
    exec (.periodDeadline n) s = .next (s.passPeriod n) := by
  have isDue : s.periodDue n = true := by
    rw [State.periodDue, live]
    exact decide_eq_true due
  rw [exec_periodDeadline, execPeriodDeadline, if_pos isDue]

/-- R94, R95: no miss is counted while a request is in process. -/
theorem State.passPeriod_inProcess (live : s.live n = some v) (inProcess : (s.port n).request.isSome = true) :
    s.passPeriod n = s.setSession n { s.session n with
      live := some { v with deadline := v.deadline + BitVec.ofNat 32 (v.period * 1000) } } := by
  unfold State.passPeriod
  simp only [live, State.inProcess, inProcess, if_true, State.modifyLive, Option.map_some]

/-- R94: a miss short of the limit is counted. -/
theorem State.passPeriod_miss (live : s.live n = some v) (free : (s.port n).request = none)
    (below : v.misses + 1 < v.limit) :
    s.passPeriod n = s.setSession n { s.session n with
      live := some { v with misses := v.misses + 1, deadline := v.deadline + BitVec.ofNat 32 (v.period * 1000) } } := by
  unfold State.passPeriod
  simp only [live, State.inProcess, free, Option.isSome_none, Bool.false_eq_true, if_false, below, if_true,
    State.modifyLive, Option.map_some]

/-- R94: the miss at the limit ends the session. -/
theorem State.passPeriod_limit (live : s.live n = some v) (free : (s.port n).request = none)
    (reached : v.limit ≤ v.misses + 1) : s.passPeriod n = s.endSession n .keepalive := by
  unfold State.passPeriod
  simp only [live, State.inProcess, free, Option.isSome_none, Bool.false_eq_true, if_false, Nat.not_lt_of_le reached]

end

/-- Settles O16: a deadline that is due is passed in one of three ways; the last of them is the end of an open session. -/
theorem periodDeadlineCountsAMiss : Obligations.PeriodDeadlineCountsAMiss := by
  unfold Obligations.PeriodDeadlineCountsAMiss
  intro n s v live due
  rw [exec_periodDeadline_of_due live due]
  refine ⟨fun inProcess => ?_, fun free below => ?_, fun free reached coherent => ⟨s.endSession n .keepalive, ?_, ?_⟩⟩
  · rw [State.passPeriod_inProcess live inProcess]
  · rw [State.passPeriod_miss live free below]
  · have isOpen : s.isOpen n = true := by rw [State.isOpen, live, Option.isSome_some]
    exact State.sessionEnded_endSession isOpen coherent .keepalive
  · rw [State.passPeriod_limit live free reached]

end Sys2Proof.Machine

/-! PROOFS of the family of the sequences: STORE_SEQUENCE and DROP_SEQUENCE (O36), whose arguments are read entry by
entry; then the end of a run, and with it ABORT (O38). -/

namespace Sys2Proof.Machine

/-! ### The steps of a STORE_SEQUENCE as arguments (R110) -/

theorem allArgs_eq_none_of_mem {α β : Type} {f : α → Option β} {a : α} (refused : f a = none) :
    ∀ {as : List α}, a ∈ as → allArgs f as = none
  | b :: bs, mem => by
    rw [allArgs]
    obtain rfl | later := List.mem_cons.mp mem
    · rw [refused, Option.bind_none]
    · simp only [allArgs_eq_none_of_mem refused later, Option.map_none, Option.bind_fun_none]

theorem within_eq_none_of_lt {low high n : Nat} (above : high < n) : within low high n = none :=
  if_neg fun inRange => Nat.not_le_of_lt above inRange.2

theorem levelArg_eq_none {b : Byte} (outOfRange : 1 < b.toNat) : levelArg b = none := by
  have not0 : b ≠ 0 := by rintro rfl; simp at outOfRange
  have not1 : b ≠ 1 := by rintro rfl; simp at outOfRange
  rw [levelArg, if_neg not0, if_neg not1]

theorem driveArg_eq_none_of_mode {d : RawDrive} (outOfRange : 3 < d.mode.toNat) : driveArg d = none := by
  have not0 : d.mode ≠ 0 := fun mode => by simp [mode] at outOfRange
  have not1 : d.mode ≠ 1 := fun mode => by simp [mode] at outOfRange
  have not2 : d.mode ≠ 2 := fun mode => by simp [mode] at outOfRange
  have not3 : d.mode ≠ 3 := fun mode => by simp [mode] at outOfRange
  simp only [driveArg, if_neg not0, if_neg not1, if_neg not2, if_neg not3, Option.bind_fun_none]

theorem driveArg_eq_none_of_level {d : RawDrive} (outOfRange : 1 < d.level.toNat) : driveArg d = none := by
  rw [driveArg, levelArg_eq_none outOfRange, Option.bind_none]

theorem stepArg_eq_none {st : RawStep} (outOfRange : 47 < st.line.toNat ∨ 3 < st.drive.mode.toNat ∨
    1 < st.drive.level.toNat ∨ 60000 < st.hold.toNat) : stepArg st = none := by
  rw [stepArg]
  obtain line | mode | level | hold := outOfRange
  · rw [lineArg, numberBelow_of_le line, Option.bind_none]
  · simp only [driveArg_eq_none_of_mode mode, Option.bind_none, Option.bind_fun_none]
  · simp only [driveArg_eq_none_of_level level, Option.bind_none, Option.bind_fun_none]
  · simp only [within_eq_none_of_lt hold, Option.map_none, Option.bind_fun_none]

theorem storeArgs_eq_none {number : Byte} {ss : List RawStep} (outOfRange : 7 < number.toNat ∨ ss = [] ∨
    16 < ss.length ∨ ∃ st ∈ ss, 47 < st.line.toNat ∨ 3 < st.drive.mode.toNat ∨ 1 < st.drive.level.toNat ∨
      60000 < st.hold.toNat) : storeArgs number ss = none := by
  rw [storeArgs]
  obtain above | empty | long | ⟨st, mem, step⟩ := outOfRange
  · rw [numberBelow_of_le above, Option.bind_none]
  · simp only [empty, List.length_nil, true_or, if_true, Option.bind_fun_none]
  · simp only [long, or_true, if_true, Option.bind_fun_none]
  · simp only [allArgs_eq_none_of_mem (stepArg_eq_none step) mem, Option.map_none, ite_self, Option.bind_fun_none]

/-! ### The store entry that a request names (R109 to R111) -/

theorem State.inUse_iff {s : State} {q : SeqNumber} : s.inUse q = true ↔ ∃ k, ∃ r ∈ s.run k, r.sequence = q := by
  simp [State.inUse]

theorem State.inUse_eq_false {s : State} {q : SeqNumber} (free : ¬ ∃ k, ∃ r ∈ s.run k, r.sequence = q) :
    s.inUse q = false :=
  Bool.eq_false_iff.mpr fun inUse => free (State.inUse_iff.mp inUse)

theorem State.originOf_of_stored {s : State} {q : SeqNumber} {x : Sequence} {o : SeqOrigin}
    (stored : s.sequence q = some x) (origin : x.origin = o) : s.originOf q = some o := by
  rw [State.originOf, stored, Option.map_some, origin]

theorem State.originOf_of_empty {s : State} {q : SeqNumber} (empty : s.sequence q = none) : s.originOf q = none := by
  rw [State.originOf, empty, Option.map_none]

theorem State.originOf_ne_profile {s : State} {q : SeqNumber}
    (runtime : ∀ x, s.sequence q = some x → x.origin = .runtime) : s.originOf q ≠ some .profile := by
  cases entry : s.sequence q with
  | none => simp [State.originOf_of_empty entry]
  | some x => simp [State.originOf_of_stored entry (runtime x entry)]

/-! ### STORE_SEQUENCE (R110) -/

theorem exec_storeSequence (h : Header) (number : Byte) (ss : List RawStep) (s : State) :
    exec (.storeSequence h number ss) s = execStoreSequence h number ss s := rfl

/-- A STORE_SEQUENCE that is heard is answered as the owning block decides on the entry and the steps it names. -/
theorem exec_storeSequence_heard {h : Header} {number : Byte} {ss : List RawStep} {a : SeqNumber × List SeqStep}
    {s t : State} {r : Reply} (hears : s.Hears h .readyOnly .configure) (args : storeArgs number ss = some a)
    (decided : decideStore a (s.heard h (1 + 5 * ss.length)) = .done t r) :
    exec (.storeSequence h number ss) s = .next (t.answered s h r) := by
  rw [exec_storeSequence, execStoreSequence, args, State.serve_heard hears decided]

theorem exec_storeSequence_badArgument {h : Header} {number : Byte} {ss : List RawStep} {s : State}
    (hears : s.Hears h .readyOnly .configure) (refused : storeArgs number ss = none) :
    exec (.storeSequence h number ss) s =
      .next ((s.heard h (1 + 5 * ss.length)).answered s h (Reply.bare .badArgument)) := by
  rw [exec_storeSequence, execStoreSequence, refused, State.serve_badArgument _ hears]

section
variable {s : State} {q : SeqNumber} {steps : List SeqStep}

theorem decideStore_fixed (fixed : s.originOf q = some .profile) :
    decideStore (q, steps) s = .done s (Reply.bare .fixedEntry) := if_pos fixed

theorem decideStore_busy (notFixed : s.originOf q ≠ some .profile) (inUse : s.inUse q = true) :
    decideStore (q, steps) s = .done s (Reply.bare .seqBusy) := by
  rw [decideStore, if_neg notFixed, if_pos inUse]

theorem decideStore_free (notFixed : s.originOf q ≠ some .profile) (free : s.inUse q = false) :
    decideStore (q, steps) s =
      .done (s.setSequence q (some { origin := .runtime, steps := steps })) (Reply.bare .ok) := by
  simp [decideStore, notFixed, free]

end

/-! ### DROP_SEQUENCE (R111) -/

theorem exec_dropSequence (h : Header) (number : Byte) (s : State) :
    exec (.dropSequence h number) s = execDropSequence h number s := rfl

/-- A DROP_SEQUENCE that is heard is answered as the owning block decides on the entry of that number. -/
theorem exec_dropSequence_heard {h : Header} {number : Byte} {q : SeqNumber} {s t : State} {r : Reply}
    (hears : s.Hears h .readyOnly .configure) (inRange : number.toNat = q.val)
    (decided : decideDropSequence q (s.heard h 1) = .done t r) :
    exec (.dropSequence h number) s = .next (t.answered s h r) := by
  rw [exec_dropSequence, execDropSequence, numberBelow_of_eq inRange, State.serve_heard hears decided]

theorem exec_dropSequence_badArgument {h : Header} {number : Byte} {s : State}
    (hears : s.Hears h .readyOnly .configure) (outOfRange : 7 < number.toNat) :
    exec (.dropSequence h number) s = .next ((s.heard h 1).answered s h (Reply.bare .badArgument)) := by
  rw [exec_dropSequence, execDropSequence, numberBelow_of_le outOfRange, State.serve_badArgument _ hears]

section
variable {s : State} {q : SeqNumber}

theorem decideDropSequence_empty (empty : s.originOf q = none) :
    decideDropSequence q s = .done s (Reply.bare .notFound) := by
  rw [decideDropSequence, empty]

theorem decideDropSequence_fixed (fixed : s.originOf q = some .profile) :
    decideDropSequence q s = .done s (Reply.bare .fixedEntry) := by
  rw [decideDropSequence, fixed]

theorem decideDropSequence_busy (runtime : s.originOf q = some .runtime) (inUse : s.inUse q = true) :
    decideDropSequence q s = .done s (Reply.bare .seqBusy) := by
  simp [decideDropSequence, runtime, inUse]

theorem decideDropSequence_free (runtime : s.originOf q = some .runtime) (free : s.inUse q = false) :
    decideDropSequence q s = .done (s.setSequence q none) (Reply.bare .ok) := by
  simp [decideDropSequence, runtime, free]

end

/-- Settles O36: hearing a request touches neither the store nor the slots, so what holds of the entry when the request
arrives is, by definition, what the block decides on; and an argument out of range is read as none. -/
theorem storeAndDropSequence : Obligations.StoreAndDropSequence := by
  unfold Obligations.StoreAndDropSequence
  refine ⟨fun h s hears => ⟨fun number ss q steps args => ⟨?_, ?_, ?_⟩, fun number q inRange => ⟨?_, ?_, ?_, ?_⟩⟩,
    fun h s hears => ⟨fun number ss outOfRange => ?_, fun number => exec_dropSequence_badArgument hears⟩⟩
  · rintro ⟨x, stored, origin⟩
    exact exec_storeSequence_heard hears args (decideStore_fixed (State.originOf_of_stored stored origin))
  · intro runtime inUse
    exact exec_storeSequence_heard hears args
      (decideStore_busy (State.originOf_ne_profile runtime) (State.inUse_iff.mpr inUse))
  · intro runtime free
    exact exec_storeSequence_heard hears args
      (decideStore_free (State.originOf_ne_profile runtime) (State.inUse_eq_false free))
  · intro empty
    exact exec_dropSequence_heard hears inRange (decideDropSequence_empty (State.originOf_of_empty empty))
  · intro x stored origin
    exact exec_dropSequence_heard hears inRange (decideDropSequence_fixed (State.originOf_of_stored stored origin))
  · intro x stored origin inUse
    exact exec_dropSequence_heard hears inRange
      (decideDropSequence_busy (State.originOf_of_stored stored origin) (State.inUse_iff.mpr inUse))
  · intro x stored origin free
    exact exec_dropSequence_heard hears inRange
      (decideDropSequence_free (State.originOf_of_stored stored origin) (State.inUse_eq_false free))
  · exact exec_storeSequence_badArgument hears (storeArgs_eq_none outOfRange)

/-! ### The end of a run (R118 to R122) -/

/-- R142: a change of what a session holds writes its record and re-evaluates its attention output, which is clear where
the session is CLOSED. -/
theorem State.modifyNotices_eq (s : State) (n : Port) (f : Live → Live) :
    s.modifyNotices n f = { s with
      sessions := s.sessions.set n { s.session n with live := (s.live n).map f }
      attention := s.attention.set n ((((s.live n).map f).map Live.alerts).getD false) } := by
  have due : (s.modifyLive n f).attentionDue n = (((s.live n).map f).map Live.alerts).getD false := by
    rw [State.attentionDue_modifyLive, Option.map_map]
    rfl
  rw [State.modifyNotices, State.reattend, due]
  rfl

/-- R118 to R122: a run that is dropped leaves its slot IDLE and its lines unbound. -/
theorem State.dropRun_eq (s : State) (k : SlotId) :
    s.dropRun k = { s with
      slots := s.slots.set k none
      lines := Vector.ofFn fun l =>
        if (s.line l).binding = some k then { s.line l with binding := none } else s.line l } := by
  rw [State.dropRun, State.unbind, Table.map]
  rfl

/-- R126: a run's lines unbound, its slot IDLE and its outcome posted are all that the end of a run is. -/
theorem State.runEnded_postOutcome (s : State) (k : SlotId) (r : Run) (out : SeqOutcome) :
    RunEnded s ((s.dropRun k).postOutcome r.agent r.sequence out) k r out := by
  unfold RunEnded
  rw [State.postOutcome, State.modifyNotices_eq, State.dropRun_eq]
  simp only [State.live, State.session]

theorem State.runEnded_haltRun {s : State} {k : SlotId} {r : Run} (reason : HaltReason) (run : s.run k = some r) :
    RunEnded s (s.haltRun k reason) k r (.halted k r.step reason s.lineTime) := by
  rw [State.haltRun, run]
  exact State.runEnded_postOutcome s k r _

theorem State.setPhase_of_run {s : State} {k : SlotId} {r : Run} (p : RunPhase) (run : s.run k = some r) :
    s.setPhase k p = s.setRun k (some { r with phase := p }) := by
  rw [State.setPhase, State.modifyRun, run, Option.map_some]

/-! ### ABORT (R121) -/

theorem exec_abortRun (h : Header) (slot : Byte) (s : State) : exec (.abortRun h slot) s = execAbort h slot s := rfl

/-- An ABORT that is heard is answered as the owning block decides on the slot of that number. -/
theorem exec_abortRun_heard {h : Header} {slot : Byte} {k : SlotId} {s t : State} {r : Reply}
    (hears : s.Hears h .readyOnly .none) (inRange : slot.toNat = k.val)
    (decided : decideAbort h.port k (s.heard h 1) = .done t r) :
    exec (.abortRun h slot) s = .next (t.answered s h r) := by
  rw [exec_abortRun, execAbort, numberBelow_of_eq inRange, State.serve_heard hears decided]

theorem exec_abortRun_badArgument {h : Header} {slot : Byte} {s : State} (hears : s.Hears h .readyOnly .none)
    (outOfRange : 1 < slot.toNat) :
    exec (.abortRun h slot) s = .next ((s.heard h 1).answered s h (Reply.bare .badArgument)) := by
  rw [exec_abortRun, execAbort, numberBelow_of_le outOfRange, State.serve_badArgument _ hears]

section
variable {s : State} {n : Port} {k : SlotId} {r : Run}

theorem decideAbort_idle (idle : s.run k = none) : decideAbort n k s = .done s (Reply.bare .notFound) := by
  rw [decideAbort, idle]

theorem decideAbort_notHolder (run : s.run k = some r) (other : r.agent ≠ n) :
    decideAbort n k s = .done s (Reply.bare .notHolder) := by
  simp [decideAbort, run, other]

theorem decideAbort_stepping (run : s.run k = some r) (own : r.agent = n) (stepping : r.phase = .stepping) :
    decideAbort n k s = .done (s.setRun k (some { r with phase := .halting .aborted })) (Reply.bare .ok) := by
  simp [decideAbort, run, own, stepping, State.setPhase_of_run]

theorem decideAbort_halting {c : HaltCause} (run : s.run k = some r) (own : r.agent = n)
    (halting : r.phase = .halting c) : decideAbort n k s = .done s (Reply.bare .ok) := by
  simp [decideAbort, run, own, halting]

theorem decideAbort_holding {d : LineTime} (run : s.run k = some r) (own : r.agent = n)
    (holding : r.phase = .holding d) :
    decideAbort n k s = .done (s.haltRun k .aborted) (Reply.bare .ok) := by
  simp [decideAbort, run, own, holding]

end

/-- Settles O38: the block's decision in each state of the slot; a HOLDING run's decision is the end of the run as of the
state heard, whose line time is that of the event. -/
theorem abortHaltsTheRun : Obligations.AbortHaltsTheRun := by
  unfold Obligations.AbortHaltsTheRun
  refine ⟨fun h slot k s hears inRange => ⟨?_, ?_, ?_, ?_, ?_⟩, fun h slot s => exec_abortRun_badArgument⟩
  · intro idle
    exact exec_abortRun_heard hears inRange (decideAbort_idle idle)
  · intro r run other
    exact exec_abortRun_heard hears inRange (decideAbort_notHolder run other)
  · intro r run own stepping
    exact exec_abortRun_heard hears inRange (decideAbort_stepping run own stepping)
  · intro r c run own halting
    exact exec_abortRun_heard hears inRange (decideAbort_halting run own halting)
  · intro r d run own holding
    exact ⟨_, State.runEnded_haltRun .aborted run,
      exec_abortRun_heard hears inRange (decideAbort_holding run own holding)⟩

end Sys2Proof.Machine

/-! PROOFS of the family of the watches, notices and wake: every step keeps the laws of the attention and wake outputs
(O59). The laws are kept by an operation that leaves what they read, by a change of what a session holds that
re-evaluates its attention output, and by the few operations that open or close sessions or rebuild the wake watches;
every command is made of these. -/

namespace Sys2Proof.Machine

/-! ### What keeps the laws of the attention and wake outputs (R142 to R146, R155) -/

/-- A change of the state after which the attention outputs are exact, and the wake outputs and wake watches sound,
where they were before it. -/
structure State.KeepsSignals (s t : State) : Prop where
  attention : s.AttentionSound → t.AttentionSound
  wakes : s.WakesSound → t.WakesSound

/-- The fields that the two laws read. -/
def State.signals (s : State) :
    Vector Session 3 × Vector Bool 3 × Vector Bool 3 × List WakeWatch × PartState × Option LoadRun :=
  (s.sessions, s.attention, s.wakeOut, s.wakeWatches, s.partState, s.loader.load)

/-- The law of the wake outputs reads of a session only whether it is open. -/
theorem State.WakesSound.congr {s t : State} (sound : s.WakesSound) (opens : ∀ n, t.isOpen n = s.isOpen n)
    (out : t.wakeOut = s.wakeOut) (watches : t.wakeWatches = s.wakeWatches) (part : t.partState = s.partState)
    (load : t.loader.load = s.loader.load) : t.WakesSound := by
  unfold State.WakesSound
  simp only [opens, out, watches, part, load]
  exact sound

theorem State.AttentionSound.congr {s t : State} (sound : s.AttentionSound) (lives : ∀ n, t.live n = s.live n)
    (attention : t.attention = s.attention) : t.AttentionSound := by
  intro n
  rw [attention, State.attentionDue, lives, sound n, State.attentionDue]

namespace State.KeepsSignals

theorem refl (s : State) : s.KeepsSignals s := ⟨id, id⟩

theorem trans {s t u : State} (first : s.KeepsSignals t) (second : t.KeepsSignals u) : s.KeepsSignals u :=
  ⟨second.attention ∘ first.attention, second.wakes ∘ first.wakes⟩

/-- An operation that leaves what the two laws read keeps them. -/
theorem of_signals_eq {s t : State} (same : t.signals = s.signals) : s.KeepsSignals t := by
  simp only [State.signals, Prod.mk.injEq] at same
  obtain ⟨sessions, attention, out, watches, part, load⟩ := same
  have lives : ∀ n, t.live n = s.live n := fun n => by rw [State.live, State.session, sessions]; rfl
  have opens : ∀ n, t.isOpen n = s.isOpen n := fun n => by rw [State.isOpen, lives]; rfl
  exact ⟨fun sound => sound.congr lives attention, fun sound => sound.congr opens out watches part load⟩

theorem forLines {op : LineId → State → State} (keeps : ∀ l (s : State), s.KeepsSignals (op l s)) :
    ∀ (ls : List LineId) (s : State), s.KeepsSignals (State.forLines op ls s)
  | [], s => refl s
  | l :: ls, s => (keeps l s).trans (forLines keeps ls (op l s))

theorem foldl {α : Type} {op : State → α → State} (keeps : ∀ (s : State) a, s.KeepsSignals (op s a)) :
    ∀ (as : List α) (s : State), s.KeepsSignals (as.foldl op s)
  | [], s => refl s
  | a :: as, s => (keeps s a).trans (foldl keeps as (op s a))

theorem ite {s t u : State} {p : Prop} [Decidable p] (ifTrue : s.KeepsSignals t)
    (ifFalse : s.KeepsSignals u) : s.KeepsSignals (if p then t else u) := by
  split_ifs
  · exact ifTrue
  · exact ifFalse

end State.KeepsSignals

/-- The lines and the interlock table are not among what the two laws read. -/
theorem State.SameButLines.keepsSignals {s t : State} (same : s.SameButLines t) : s.KeepsSignals t := by
  unfold State.SameButLines at same
  rw [same]
  exact .of_signals_eq rfl

/-! ### Changes of what a session holds (R142) -/

theorem Live.alerts_congr {v w : Live} (mask : w.mask = v.mask) (urgent : w.urgentNotices = v.urgentNotices)
    (normal : w.normalNotices = v.normalNotices) : w.alerts = v.alerts := by
  rw [Live.alerts, Live.pendingNotices, mask, urgent, normal, Live.alerts, Live.pendingNotices]

theorem Live.alerts_retimed (v : Live) (misses : Nat) (deadline : LineTime) :
    ({ v with misses := misses, deadline := deadline } : Live).alerts = v.alerts :=
  Live.alerts_congr rfl rfl rfl

section
variable (s : State) (n : Port)

/-- A change of an open session that leaves it as alerting as it was needs no re-evaluation. -/
theorem State.keepsSignals_modifyLive {f : Live → Live} (same : ∀ v, s.live n = some v → (f v).alerts = v.alerts) :
    s.KeepsSignals (s.modifyLive n f) where
  attention sound m := by
    rw [State.modifyLive_attention, sound m, State.attentionDue, State.attentionDue, State.live_modifyLive]
    by_cases own : m = n
    · subst own
      rw [if_pos rfl]
      cases live : s.live m with
      | none => rfl
      | some v => exact (same v live).symm
    · rw [if_neg own]
  wakes sound := sound.congr (fun m => State.isOpen_modifyLive s n m f) rfl rfl rfl rfl

/-- R142: a re-evaluation puts right what a change of one session left open. -/
theorem State.AttentionSound.reattend {s t : State} {n : Port} (sound : s.AttentionSound)
    (others : ∀ m, m ≠ n → t.live m = s.live m) (attention : t.attention = s.attention) :
    (t.reattend n).AttentionSound := by
  intro m
  have due : (t.reattend n).attentionDue m = t.attentionDue m := rfl
  rw [State.attention_reattend, due]
  by_cases own : m = n
  · rw [if_pos own, own]
  · rw [if_neg own, attention, sound m, State.attentionDue, State.attentionDue, others m own]

/-- R142: any change of what a session holds keeps the laws once the attention output is re-evaluated. -/
theorem State.keepsSignals_modifyNotices (f : Live → Live) : s.KeepsSignals (s.modifyNotices n f) where
  attention sound :=
    sound.reattend (fun m other => by rw [State.live_modifyLive, if_neg other]) (State.modifyLive_attention s n f)
  wakes sound := sound.congr (fun m => State.isOpen_modifyLive s n m f) rfl rfl rfl rfl

/-- R93: a keepalive changes the miss count and the deadline, and no notice. -/
theorem State.keepsSignals_keepalive : s.KeepsSignals (s.keepalive n) := by
  refine State.keepsSignals_modifyLive s n fun v _ => ?_
  exact v.alerts_retimed 0 (s.afterMs v.period)

end

/-! ### Runs (chapter 6) -/

section
variable (s : State) (k : SlotId)

theorem State.keepsSignals_modifyRun (f : Run → Run) : s.KeepsSignals (s.modifyRun k f) := .of_signals_eq rfl

theorem State.keepsSignals_dropRun : s.KeepsSignals (s.dropRun k) := by
  rw [State.dropRun_eq]
  exact .of_signals_eq (by simp only [State.signals, State.partState])

theorem State.keepsSignals_haltRun (reason : HaltReason) : s.KeepsSignals (s.haltRun k reason) := by
  unfold State.haltRun
  cases s.run k with
  | none => exact .refl s
  | some r => exact (s.keepsSignals_dropRun k).trans (State.keepsSignals_modifyNotices _ r.agent _)

theorem State.keepsSignals_finishRun : s.KeepsSignals (s.finishRun k) := by
  unfold State.finishRun
  cases s.run k with
  | none => exact .refl s
  | some r => exact (s.keepsSignals_dropRun k).trans (State.keepsSignals_modifyNotices _ r.agent _)

theorem State.keepsSignals_beginSteps : ∀ (steps : List SeqStep) (n : Nat) (s : State),
    s.KeepsSignals (State.beginSteps k steps n s)
  | [], _, s => s.keepsSignals_finishRun k
  | st :: rest, n, s => by
    rw [State.beginSteps]
    refine (s.keepsSignals_modifyRun k fun r => { r with step := n }).trans ?_
    generalize s.modifyRun k _ = u
    cases u.admission st.line st.drive with
    | some slot => exact u.keepsSignals_haltRun k _
    | none =>
      dsimp only
      split_ifs
      · exact keepsSignals_beginSteps rest (n + 1) u
      · exact u.keepsSignals_modifyRun k _
      · exact (State.driveTo_same u st.line st.drive).keepsSignals.trans (State.keepsSignals_modifyRun _ k _)

theorem State.keepsSignals_endHold : s.KeepsSignals (s.endHold k) := by
  unfold State.endHold
  cases s.run k with
  | none => exact .refl s
  | some r => exact State.keepsSignals_beginSteps k _ _ s

theorem State.keepsSignals_beginHold (r : Run) : s.KeepsSignals (s.beginHold k r) := by
  unfold State.beginHold
  dsimp only
  split_ifs
  · exact s.keepsSignals_endHold k
  · exact s.keepsSignals_modifyRun k _

theorem State.keepsSignals_stepMoveEnded : s.KeepsSignals (s.stepMoveEnded k) := by
  unfold State.stepMoveEnded
  cases s.run k with
  | none => exact .refl s
  | some r =>
    dsimp only
    cases r.phase with
    | stepping => exact s.keepsSignals_beginHold k r
    | halting cause => exact s.keepsSignals_haltRun k _
    | holding deadline => exact .refl s

theorem State.keepsSignals_faultOnBound (l : LineId) : s.KeepsSignals (s.faultOnBound k l) := by
  unfold State.faultOnBound
  cases s.run k with
  | none => exact .refl s
  | some r =>
    dsimp only
    cases r.phase with
    | stepping => exact s.keepsSignals_modifyRun k _
    | halting cause => exact .refl s
    | holding deadline => exact s.keepsSignals_haltRun k _

end

/-! ### Grants and the pending list (chapter 4) -/

section
variable (s : State)

theorem State.SameButDisposal.loader {s t : State} (h : s.SameButDisposal t) : t.loader = s.loader := by
  unfold State.SameButDisposal at h
  rw [h]

theorem State.grantLines_same (agent : Port) (term : Option Nat) (ls : List LineId) :
    s.SameButLines (s.grantLines agent term ls) :=
  State.forLines_same (fun l u => State.grantLine_same u agent term l) ls s

theorem State.applyInitial_same (e : Entry) : s.SameButLines (s.applyInitial e).1 := by
  unfold State.applyInitial
  cases e.drive with
  | none => exact .refl s
  | some d =>
    dsimp only
    cases driven : s.driveAll (proposals e.target.lines d) with
    | ok t => exact State.driveAll_same _ s t driven
    | error refused => exact .refl s

theorem State.keepsSignals_removeEntry_setTicket (n : Port) (k : TicketId) (x : Ticket) :
    s.KeepsSignals ((s.removeEntry n k).setTicket n k x) :=
  have removed : s.KeepsSignals (s.removeEntry n k) := .of_signals_eq rfl
  removed.trans (State.keepsSignals_modifyNotices _ n _)

theorem State.keepsSignals_grantEntry (e : Entry) : s.KeepsSignals (s.grantEntry e) :=
  ((s.grantLines_same _ _ _).trans (State.applyInitial_same _ e)).keepsSignals.trans
    (State.keepsSignals_removeEntry_setTicket _ _ _ _)

theorem State.keepsSignals_scanEntries : ∀ (es : List Entry) (s : State), s.KeepsSignals (State.scanEntries es s)
  | [], s => .refl s
  | e :: es, s => by
    rw [State.scanEntries]
    split_ifs
    · exact (s.keepsSignals_grantEntry e).trans (keepsSignals_scanEntries es _)
    · exact keepsSignals_scanEntries es s

/-! ### Terms, moves, faults and the loss of a holder (chapters 1 and 2) -/

theorem State.keepsSignals_expire (l : LineId) : s.KeepsSignals (s.expire l) := by
  have released := (State.beginRelease_same s l .termEnded (s.releaseTarget l)).keepsSignals
  unfold State.expire
  cases (s.line l).holder with
  | agent n => exact released.trans (State.keepsSignals_modifyNotices _ n _)
  | profile => exact released
  | none => exact released

theorem State.keepsSignals_completeMove (l : LineId) : s.KeepsSignals (s.completeMove l) := by
  unfold State.completeMove
  cases (s.line l).state with
  | free => exact .refl s
  | held => exact .refl s
  | releasing => exact (State.modifyLine_same s l _).keepsSignals.trans (State.keepsSignals_scanEntries _ _)
  | moving =>
    dsimp only
    split_ifs
    · exact s.keepsSignals_expire l
    · have held (f : Line → Line) : s.KeepsSignals ((s.modifyLine l f).enterChecked l) :=
        ((State.modifyLine_same s l f).trans (State.enterChecked_same _ l)).keepsSignals
      split
      · exact held _
      · exact (held _).trans (State.keepsSignals_stepMoveEnded _ _)

theorem State.keepsSignals_endStage (l : LineId) (m : Move) : s.KeepsSignals (s.endStage l m) := by
  have settled (f : Line → Line) : s.KeepsSignals (s.modifyLine l f).settleReserved :=
    ((State.modifyLine_same s l f).trans (State.settleReserved_same _)).keepsSignals
  unfold State.endStage
  split
  · exact settled _
  · exact (settled _).trans (State.keepsSignals_completeMove _ l)
  · exact (settled _).trans (State.keepsSignals_completeMove _ l)

theorem State.keepsSignals_tellHolder (l : LineId) : s.KeepsSignals (s.tellHolder l) := by
  unfold State.tellHolder
  cases (s.line l).holder with
  | agent n => exact s.keepsSignals_modifyNotices n _
  | profile => exact .refl s
  | none => exact .refl s

theorem State.keepsSignals_tellSequencer (l : LineId) : s.KeepsSignals (s.tellSequencer l) := by
  unfold State.tellSequencer
  cases (s.line l).binding with
  | none => exact .refl s
  | some k => exact s.keepsSignals_faultOnBound k l

theorem State.keepsSignals_fireReadback (l : LineId) : s.KeepsSignals (s.fireReadback l) := by
  have faulted : s.KeepsSignals (s.faultLine l) :=
    ((State.modifyLine_same s l _).trans (State.settleReserved_same _)).keepsSignals
  exact (faulted.trans (State.keepsSignals_tellHolder _ l)).trans (State.keepsSignals_tellSequencer _ l)

theorem State.keepsSignals_reachTerm (l : LineId) : s.KeepsSignals (s.reachTerm l) := by
  unfold State.reachTerm
  cases (s.line l).state with
  | held => exact s.keepsSignals_expire l
  | moving => exact (State.modifyLine_same s l _).keepsSignals
  | free => exact .refl s
  | releasing => exact .refl s

/-- R39, R40: once its run is halted and its move abandoned, a line of the lost agent is inherited or parked. -/
theorem State.dispose_cases (lost : Port) (l : LineId) : State.dispose lost l s = s ∨
    (∃ heir wasMoving, State.dispose lost l s = ((s.haltLost l).abandon l).inherit_ lost heir l wasMoving) ∨
    State.dispose lost l s = ((s.haltLost l).abandon l).park l := by
  by_cases held : (s.line l).holder = .agent lost
  · cases eligible : ((s.haltLost l).abandon l).eligibleHeir lost l with
    | some heir => exact .inr (.inl ⟨heir, _, State.dispose_of_heir held eligible⟩)
    | none => exact .inr (.inr (State.dispose_of_noHeir held eligible))
  · exact .inl (State.dispose_of_other held)

theorem State.keepsSignals_haltLost (l : LineId) : s.KeepsSignals (s.haltLost l) := by
  unfold State.haltLost
  cases (s.line l).binding with
  | none => exact .refl s
  | some k => exact s.keepsSignals_dropRun k

theorem State.keepsSignals_dispose (lost : Port) (l : LineId) : s.KeepsSignals (State.dispose lost l s) := by
  have loosened := (s.keepsSignals_haltLost l).trans (State.abandon_same _ l).keepsSignals
  obtain other | ⟨heir, wasMoving, inherited⟩ | parked := s.dispose_cases lost l
  · rw [other]
    exact .refl s
  · rw [inherited]
    exact (loosened.trans (State.inheritLine_same _ heir l wasMoving).keepsSignals).trans
      (State.keepsSignals_modifyNotices _ heir _)
  · rw [parked]
    exact loosened.trans (State.beginRelease_same _ l _ _).keepsSignals

theorem State.keepsSignals_disposeAll (lost : Port) : s.KeepsSignals (s.disposeAll lost) :=
  .forLines (fun l u => u.keepsSignals_dispose lost l) allLines s

/-- The disposition writes nothing of the Loader's record. -/
theorem State.dispose_loader (lost : Port) (l : LineId) : (State.dispose lost l s).loader = s.loader := by
  have loosened := (State.haltLost_same s l).trans (State.abandon_same _ l).sameButDisposal
  obtain other | ⟨heir, wasMoving, inherited⟩ | parked := s.dispose_cases lost l
  · rw [other]
  · rw [inherited]
    exact ((loosened.trans (State.inheritLine_same _ heir l wasMoving).sameButDisposal).trans
      (State.modifyNotices_same _ heir _).sameButDisposal).loader
  · rw [parked]
    exact (loosened.trans (State.beginRelease_same _ l _ _).sameButDisposal).loader

theorem State.forLines_loader {op : LineId → State → State} (same : ∀ l (s : State), (op l s).loader = s.loader) :
    ∀ (ls : List LineId) (s : State), (State.forLines op ls s).loader = s.loader
  | [], _ => rfl
  | l :: ls, s => (State.forLines_loader same ls (op l s)).trans (same l s)

theorem State.disposeAll_loader (lost : Port) : (s.disposeAll lost).loader = s.loader :=
  State.forLines_loader (fun l u => u.dispose_loader lost l) allLines s

end

/-! ### The ends and the openings of sessions (R98, R105, R144, R146) -/

theorem State.SameButNotices.wakeOut {s t : State} (h : s.SameButNotices t) : t.wakeOut = s.wakeOut := by
  unfold State.SameButNotices at h
  rw [h]

theorem State.SameButNotices.loader {s t : State} (h : s.SameButNotices t) : t.loader = s.loader := by
  unfold State.SameButNotices at h
  rw [h]

section
variable (s : State) (n : Port) (cause : EndCause)

theorem State.keepsSignals_tellPort (lost : Port) : s.KeepsSignals (State.tellPort lost cause s n) := by
  unfold State.tellPort
  split_ifs
  · exact s.keepsSignals_modifyNotices n _
  · exact .refl s

theorem State.keepsSignals_tellLoss : s.KeepsSignals (s.tellLoss n cause) :=
  .foldl (fun u m => u.keepsSignals_tellPort m cause n) _ s

theorem State.isOpen_tellLoss (m : Port) : (s.tellLoss n cause).isOpen m = s.isOpen m := by
  rw [State.isOpen, State.live]
  by_cases own : m = n
  · rw [own, State.session_tellLoss_lost]
    rfl
  · rw [State.session_tellLoss own, Option.isSome_map]
    rfl

theorem State.isOpen_setSession (x : Session) (m : Port) :
    (s.setSession n x).isOpen m = if m = n then x.live.isSome else s.isOpen m := by
  rw [State.isOpen, State.live, State.session_setSession]
  split_ifs <;> rfl

theorem State.live_setSession_other {m : Port} (x : Session) (other : m ≠ n) :
    (s.setSession n x).live m = s.live m := by
  rw [State.live, State.session_setSession, if_neg other, State.live]

/-- R144: the wake watches of a port are active once its session has ended. -/
theorem State.WakesSound.closed {s t : State} (sound : s.WakesSound)
    (opens : ∀ m, t.isOpen m = if m = n then false else s.isOpen m) (out : t.wakeOut = s.wakeOut)
    (watches : t.wakeWatches = (s.activateWakes n).wakeWatches) (loader : t.loader = s.loader) : t.WakesSound := by
  obtain ⟨outLow, active, loading, starting⟩ := sound
  refine ⟨fun m high => ?_, fun w listed => ?_, ?_, fun part m => ?_⟩
  · rw [opens]
    rw [out] at high
    split_ifs
    · rfl
    · exact outLow m high
  · rw [watches, State.activateWakes, List.mem_map] at listed
    obtain ⟨x, known, rfl⟩ := listed
    rw [opens]
    by_cases own : x.target = n
    · simp [own, State.seedWake]
    · simp only [own, if_false]
      exact active x known
  · rw [State.partState, loader]
    exact loading
  · rw [State.partState, loader] at part
    rw [opens, starting part m, ite_self]

/-- R146: no wake output of a port is high, and none of its wake watches active, once its session is open. -/
theorem State.WakesSound.opened {s t : State} (sound : s.WakesSound) (started : s.partState ≠ .starting)
    (opens : ∀ m, t.isOpen m = if m = n then true else s.isOpen m) (out : t.wakeOut = s.wakeOut.set n false)
    (watches : t.wakeWatches = (s.deactivateWakes n).wakeWatches) (loader : t.loader = s.loader) : t.WakesSound := by
  obtain ⟨outLow, active, loading, -⟩ := sound
  refine ⟨fun m high => ?_, fun w listed => ?_, ?_, fun part => ?_⟩
  · rw [out, Table.get_set] at high
    rw [opens]
    by_cases own : m = n
    · simp [own] at high
    · rw [if_neg own] at high ⊢
      exact outLow m high
  · rw [watches, State.deactivateWakes, List.mem_map] at listed
    obtain ⟨x, known, rfl⟩ := listed
    rw [opens]
    by_cases own : x.target = n
    · simp [own]
    · simp only [own, if_false]
      exact active x known
  · rw [State.partState, loader]
    exact loading
  · rw [State.partState, loader] at part
    exact absurd part started

/-- R105: a session that ends activates its port's wake watches and clears its attention output. -/
theorem State.keepsSignals_endSession : s.KeepsSignals (s.endSession n cause) := by
  by_cases isOpen : s.isOpen n = true
  · rw [State.endSession_of_open isOpen]
    refine (s.keepsSignals_disposeAll n).trans ?_
    generalize s.disposeAll n = d
    have told := State.tellLoss_same (d.ending n) n cause
    refine ⟨fun sound => ((State.keepsSignals_tellLoss (d.ending n) n cause).attention sound).reattend
      (fun _ => State.live_setSession_other _ n _) (State.setSession_attention _ n _),
      fun sound => sound.closed n (fun m => ?_) told.wakeOut told.wakeWatches told.loader⟩
    have closed := State.isOpen_setSession ((d.ending n).tellLoss n cause) n
      { ((d.ending n).tellLoss n cause).session n with lastEnd := cause, live := none } m
    rw [State.isOpen_tellLoss] at closed
    exact closed
  · rw [State.endSession, if_neg isOpen]
    exact .refl s

theorem State.ending_loader : (s.ending n).loader = s.loader := rfl

theorem State.endSession_loader : (s.endSession n cause).loader = s.loader := by
  by_cases isOpen : s.isOpen n = true
  · rw [State.endSession_of_open isOpen]
    have closed := State.closeRecord_same (((s.disposeAll n).ending n).tellLoss n cause) n cause
    have ended := (State.tellLoss_same ((s.disposeAll n).ending n) n cause).trans closed
    rw [ended.loader, State.ending_loader, State.disposeAll_loader]
  · rw [State.endSession, if_neg isOpen]

/-- R98, R144, R146: a session that opens, which none does in STARTING, clears its port's wake output, deactivates its
wake watches and has no notice. -/
theorem State.keepsSignals_openRecord (period limit : Nat) (mask : AttentionMask) (started : s.partState ≠ .starting) :
    s.KeepsSignals (s.openRecord n period limit mask) where
  attention sound := sound.reattend (fun _ => State.live_setSession_other s n _) rfl
  wakes sound := sound.opened n started (State.isOpen_setSession s n _) rfl rfl rfl

end

/-! ### Taking and deciding a request (R171 to R173, R180) -/

/-- The state that a decision leaves. -/
def Verdict.state : Verdict → State
  | .done s _ => s
  | .accepted s => s

section
variable (s : State) (n : Port)

/-- No field of a port is among what the two laws read. -/
theorem State.keepsSignals_modifyPort (f : PortRecord → PortRecord) : s.KeepsSignals (s.modifyPort n f) :=
  .of_signals_eq rfl

theorem State.keepsSignals_sense (level : Level) : s.KeepsSignals (s.sense n level) := .of_signals_eq rfl

/-- A change of the Loader's record that leaves the part state and the load in progress. -/
theorem State.keepsSignals_modifyLoader {f : Loader → Loader} (part : (f s.loader).partState = s.loader.partState)
    (load : (f s.loader).load = s.loader.load) : s.KeepsSignals (s.modifyLoader f) :=
  .of_signals_eq (by simp only [State.signals, State.modifyLoader, State.partState, part, load])

end

theorem Verdict.keepsSignals_settle (v : Verdict) (h : Header) (discarded : Bool) :
    v.state.KeepsSignals (v.settle h discarded) := by
  cases v with
  | done s r =>
    rw [Verdict.settle_done]
    exact s.keepsSignals_modifyPort h.port _
  | accepted s =>
    rw [Verdict.settle]
    exact s.keepsSignals_modifyPort h.port _

section
variable {α : Type} {h : Header} {body : α → State → Verdict}

theorem authorise_keepsSignals {u : State} (right : Right) (args : Option α)
    (keeps : ∀ a, u.KeepsSignals (body a u).state) : u.KeepsSignals (authorise h right args body u).state := by
  unfold authorise
  split_ifs
  · cases args with
    | none => exact .refl u
    | some a => exact keeps a
  · exact .refl u

/-- A request keeps the laws where its own decision does, in the part states that serve it. -/
theorem checked_keepsSignals {service : Service} (rule : SessionRule) (right : Right) (args : Option α)
    (keeps : ∀ a (u : State), service.refusal u.partState = none → u.KeepsSignals (body a u).state) (u : State) :
    u.KeepsSignals (checked h service rule right args body u).state := by
  have alive := u.keepsSignals_keepalive h.port
  unfold checked
  cases served : service.refusal u.partState with
  | some o => exact .refl u
  | none =>
    have decided := authorise_keepsSignals (h := h) right args fun a => keeps a u served
    have heard := authorise_keepsSignals (h := h) right args fun a => keeps a (u.keepalive h.port) served
    cases rule with
    | exempt => exact decided
    | exemptKeepalive =>
      dsimp only
      split_ifs
      · exact alive.trans heard
      · exact decided
    | required =>
      dsimp only
      split_ifs
      · exact alive.trans heard
      · exact .refl u
      · exact .refl u

end

theorem State.keepsSignals_serve (s : State) (h : Header) (length : Nat) {judge : State → Verdict}
    (keeps : ∀ u : State, u.KeepsSignals (judge u).state) : s.KeepsSignals (s.serve h length judge) := by
  unfold State.serve
  split_ifs
  · exact s.keepsSignals_modifyPort h.port _
  · exact ((s.keepsSignals_modifyPort h.port _).trans (keeps _)).trans (Verdict.keepsSignals_settle _ h _)
  · exact .refl s

/-- A request whose own decision keeps the laws in every state keeps them. -/
theorem State.keepsSignals_request (s : State) (h : Header) (length : Nat) (service : Service) (rule : SessionRule)
    (right : Right) {α : Type} (args : Option α) {body : α → State → Verdict}
    (keeps : ∀ a (u : State), u.KeepsSignals (body a u).state) :
    s.KeepsSignals (s.serve h length (checked h service rule right args body)) :=
  s.keepsSignals_serve h length (checked_keepsSignals rule right args fun a u _ => keeps a u)

/-! ### The decisions of the requests -/

section
variable (n : Port) (s : State)

/-- R97 to R99: OPEN is not served in STARTING, so the session it opens is opened outside it. -/
theorem decideOpen_keepsSignals (a : OpenArgs) (served : Service.exceptStarting.refusal s.partState = none) :
    s.KeepsSignals (decideOpen n a s).state := by
  have started : s.partState ≠ .starting := fun part => by simp [part, Service.refusal] at served
  have stillStarted : (s.endSession n .reopened).partState ≠ .starting := by
    rwa [State.partState, State.endSession_loader]
  unfold decideOpen
  split_ifs
  · exact .refl s
  · exact (s.keepsSignals_endSession n .reopened).trans (State.keepsSignals_openRecord _ n _ _ _ stillStarted)

theorem State.keepsSignals_grantNow (t : Target) (a : ClaimArgs) : s.KeepsSignals (s.grantNow n t a).state := by
  have granted := s.grantLines_same n a.term t.lines
  unfold State.grantNow
  dsimp only
  cases a.drive with
  | none => exact granted.keepsSignals
  | some d =>
    dsimp only
    cases driven : (s.grantLines n a.term t.lines).driveAll (proposals t.lines d) with
    | ok u => exact (granted.trans (State.driveAll_same _ _ u driven)).keepsSignals
    | error refused => exact .refl s

theorem State.keepsSignals_claimWaits (t : Target) (a : ClaimArgs) : s.KeepsSignals (s.claimWaits n t a).state := by
  unfold State.claimWaits
  cases s.idleTicket n with
  | none => exact .refl s
  | some k =>
    have joined (es : List Entry) : s.KeepsSignals { s with pendingList := es } := .of_signals_eq rfl
    exact (joined _).trans (State.keepsSignals_modifyNotices _ n _)

theorem decideClaim_keepsSignals (a : ClaimArgs) : s.KeepsSignals (decideClaim n a s).state := by
  unfold decideClaim
  cases s.resolve a.target with
  | none => exact .refl s
  | some t =>
    dsimp only
    cases s.firstRefusal t.lines (claimTests n) with
    | some r => exact .refl s
    | none =>
      dsimp only
      split_ifs
      · exact s.keepsSignals_grantNow n t a
      · exact .refl s
      · exact s.keepsSignals_claimWaits n t a

theorem decideCancel_keepsSignals (k : TicketId) : s.KeepsSignals (decideCancel n k s).state := by
  unfold decideCancel
  cases s.ticket n k with
  | idle => exact .refl s
  | waiting t => exact s.keepsSignals_removeEntry_setTicket n k .idle
  | granted t time applied => exact .refl s
  | expired t time => exact s.keepsSignals_modifyNotices n _

theorem decideRelease_keepsSignals (target : NamedTarget) : s.KeepsSignals (decideRelease n target s).state := by
  unfold decideRelease
  cases s.resolve target with
  | none => exact .refl s
  | some t =>
    dsimp only
    cases s.firstRefusal t.lines [notHolderTest n, lineMovingTest, inSequenceTest] with
    | some r => exact .refl s
    | none =>
      exact .forLines (fun l u => (State.beginRelease_same u l .released (u.releaseTarget l)).keepsSignals) _ s

theorem decideSet_keepsSignals (entries : List (LineId × Drive)) : s.KeepsSignals (decideSet n entries s).state := by
  unfold decideSet
  split
  · exact .refl s
  · split
    · next u driven => exact (State.driveAll_same _ s u driven).keepsSignals
    · exact .refl s

theorem decideSetHeir_keepsSignals (a : LineId × Option Port) : s.KeepsSignals (decideSetHeir n a s).state := by
  unfold decideSetHeir
  split_ifs
  · rw [Verdict.state]
    exact (State.modifyLine_same s a.1 _).keepsSignals
  · exact .refl s

theorem decideExtend_keepsSignals (a : NamedTarget × Option Nat) : s.KeepsSignals (decideExtend n a s).state := by
  unfold decideExtend
  cases s.resolve a.1 with
  | none => exact .refl s
  | some t =>
    dsimp only
    cases s.firstRefusal t.lines [notHolderTest n, inSequenceTest] with
    | some r => exact .refl s
    | none => exact .forLines (fun l u => (State.modifyLine_same u l _).keepsSignals) _ s

theorem decideClearFault_keepsSignals (l : LineId) : s.KeepsSignals (decideClearFault n l s).state := by
  have restored (prior : Drive) : s.KeepsSignals (s.restore l prior) :=
    ((State.modifyLine_same s l _).trans (State.driveTo_same _ l prior)).keepsSignals
  unfold decideClearFault
  split_ifs
  · split
    · split
      · exact .refl s
      · split
        · exact .refl s
        · exact restored _
    · exact .refl s
    · exact .refl s
  · exact .refl s

theorem decideAddInterlock_keepsSignals (r : Rule) : s.KeepsSignals (decideAddInterlock n r s).state := by
  unfold decideAddInterlock
  split
  · exact .refl s
  · split_ifs
    · exact .refl s
    · exact .of_signals_eq rfl

theorem decideDropInterlock_keepsSignals (k : RuleSlot) : s.KeepsSignals (decideDropInterlock k s).state := by
  unfold decideDropInterlock
  split
  · exact .refl s
  · exact .refl s
  · exact .of_signals_eq rfl

theorem decideStore_keepsSignals (a : SeqNumber × List SeqStep) : s.KeepsSignals (decideStore a s).state := by
  unfold decideStore
  split_ifs
  · exact .refl s
  · exact .refl s
  · exact .of_signals_eq rfl

theorem decideDropSequence_keepsSignals (q : SeqNumber) : s.KeepsSignals (decideDropSequence q s).state := by
  unfold decideDropSequence
  split
  · exact .refl s
  · exact .refl s
  · split_ifs
    · exact .refl s
    · exact .of_signals_eq rfl

theorem State.keepsSignals_startRun (q : SeqNumber) (k : SlotId) : s.KeepsSignals (s.startRun n q k) := by
  have taken (r : Option Run) : s.KeepsSignals (s.setRun k r) := .of_signals_eq rfl
  have bound (ls : List LineId) (u : State) : u.KeepsSignals (u.bind k ls) :=
    .forLines (fun l t => (State.modifyLine_same t l _).keepsSignals) ls u
  exact ((taken _).trans (bound _ _)).trans (State.keepsSignals_beginSteps k _ 1 _)

theorem decideRun_keepsSignals (q : SeqNumber) : s.KeepsSignals (decideRun n q s).state := by
  unfold decideRun
  cases s.sequence q with
  | none => exact .refl s
  | some x =>
    dsimp only
    cases s.idleSlot with
    | none => exact .refl s
    | some k =>
      dsimp only
      cases s.firstRefusal (s.lineSet q) (runTests n) with
      | some r => exact .refl s
      | none => exact s.keepsSignals_startRun n q k

theorem decideAbort_keepsSignals (k : SlotId) : s.KeepsSignals (decideAbort n k s).state := by
  unfold decideAbort
  split
  · exact .refl s
  · split_ifs
    · split
      · exact s.keepsSignals_modifyRun k _
      · exact s.keepsSignals_haltRun k _
      · exact .refl s
    · exact .refl s

/-- R130, R142: a record that is added holds no notice, and takes the place of none. -/
theorem Live.alerts_addWatch {v : Live} {id : WatchId} {w : Watch} (free : v.watches.get id = none)
    (noEdge : w.pending = none) : (v.setWatch id (some w)).alerts = v.alerts := by
  have items (urgent : Bool) : (v.setWatch id (some w)).watchItems urgent = v.watchItems urgent := by
    refine List.filterMap_congr fun j _ => ?_
    rw [Live.setWatch, Table.get_set]
    by_cases own : j = id
    · subst own
      simp [free, noEdge]
    · rw [if_neg own]
  refine Live.alerts_congr rfl ?_ ?_
  · rw [Live.urgentNotices, items, Live.urgentNotices]
    rfl
  · rw [Live.normalNotices, items, Live.normalNotices]
    rfl

theorem decideAddWatch_keepsSignals (a : WatchArgs) : s.KeepsSignals (decideAddWatch n a s).state := by
  unfold decideAddWatch
  cases free : s.freeWatch n with
  | none => exact .refl s
  | some id =>
    refine s.keepsSignals_modifyLive n fun v live => Live.alerts_addWatch ?_ rfl
    rw [State.freeWatch, live, Option.bind_some, Table.lowest_eq_some_iff] at free
    exact of_decide_eq_true free.1

theorem decideDropWatch_keepsSignals (id : WatchId) : s.KeepsSignals (decideDropWatch n id s).state := by
  unfold decideDropWatch
  cases s.watch n id with
  | none => exact .refl s
  | some w => exact s.keepsSignals_modifyNotices n _

theorem decideFlash_keepsSignals (work : FlashWork) : s.KeepsSignals (decideFlash n work s).state := by
  unfold decideFlash
  cases s.loader.flashOp with
  | some op => exact .refl s
  | none =>
    rw [Verdict.state]
    exact s.keepsSignals_modifyLoader rfl rfl

end

/-! ### Levels and filter deadlines (R131, R145) -/

section
variable {w : WakeWatch} {change : Filter → Filter × Option LineTime}

/-- R145: a delivery leaves a wake watch as active as it was, for the same port. -/
theorem WakeWatch.deliver_same : (w.deliver change).1.target = w.target ∧
    (w.deliver change).1.view.isSome = w.view.isSome := by
  unfold WakeWatch.deliver
  cases view : w.view with
  | none => exact ⟨rfl, congrArg _ view⟩
  | some f => exact ⟨rfl, rfl⟩

/-- R145: only an active wake watch raises its wake output. -/
theorem WakeWatch.active_of_deliver (raised : (w.deliver change).2 = true) : w.view.isSome = true := by
  unfold WakeWatch.deliver at raised
  cases view : w.view with
  | none => simp [view] at raised
  | some f => rfl

end

section
variable {change : WakeWatch → Filter → Filter × Option LineTime}

/-- R145: each wake watch after the deliveries is one from before them, as active as it was and for the same port. -/
theorem deliverWakes_watch {x : WakeWatch} : ∀ {ws : List WakeWatch} {out : Vector Bool 3},
    x ∈ (deliverWakes change out ws).1 → ∃ w ∈ ws, x.target = w.target ∧ x.view.isSome = w.view.isSome
  | w :: ws, out, listed => by
    obtain rfl | later := List.mem_cons.mp listed
    · exact ⟨w, List.mem_cons_self, WakeWatch.deliver_same⟩
    · obtain ⟨y, known, same⟩ := deliverWakes_watch later
      exact ⟨y, List.mem_cons_of_mem w known, same⟩

/-- R145: a wake output that is high after the deliveries was high before them, or is that of an active wake watch. -/
theorem deliverWakes_high {n : Port} : ∀ {ws : List WakeWatch} {out : Vector Bool 3},
    (deliverWakes change out ws).2.get n = true → out.get n = true ∨ ∃ w ∈ ws, w.target = n ∧ w.view.isSome = true
  | [], _, high => .inl high
  | w :: ws, out, high => by
    obtain before | ⟨y, known, active⟩ := deliverWakes_high (ws := ws) high
    · by_cases raised : (w.deliver (change w)).2 = true
      · rw [if_pos raised, Table.get_set] at before
        by_cases own : n = w.target
        · exact .inr ⟨w, List.mem_cons_self, own.symm, WakeWatch.active_of_deliver raised⟩
        · rw [if_neg own] at before
          exact .inl before
      · rw [if_neg raised] at before
        exact .inl before
    · exact .inr ⟨y, List.mem_cons_of_mem w known, active⟩

end

/-- R145, R146: deliveries to the wake watches raise the outputs of active ones alone, whose ports have no open
session. -/
theorem State.WakesSound.delivered {s t : State} (sound : s.WakesSound) (opens : ∀ n, t.isOpen n = s.isOpen n)
    (high : ∀ n, t.wakeOut.get n = true →
      s.wakeOut.get n = true ∨ ∃ w ∈ s.wakeWatches, w.target = n ∧ w.view.isSome = true)
    (watch : ∀ x ∈ t.wakeWatches, ∃ w ∈ s.wakeWatches, x.target = w.target ∧ x.view.isSome = w.view.isSome)
    (loader : t.loader = s.loader) : t.WakesSound := by
  obtain ⟨outLow, active, loading, starting⟩ := sound
  refine ⟨fun n raised => ?_, fun x listed => ?_, ?_, fun part n => ?_⟩
  · rw [opens]
    obtain before | ⟨w, known, rfl, isActive⟩ := high n raised
    · exact outLow n before
    · exact (active w known).mp isActive
  · obtain ⟨w, known, target, view⟩ := watch x listed
    rw [opens, target, view]
    exact active w known
  · rw [State.partState, loader]
    exact loading
  · rw [State.partState, loader] at part
    rw [opens, starting part n]

section
variable (s : State)

theorem State.keepsSignals_wakeLine (l : LineId) (level : Level) : s.KeepsSignals (s.wakeLine l level) where
  attention sound := sound
  wakes sound := sound.delivered (fun _ => rfl) (fun _ => deliverWakes_high) (fun _ => deliverWakes_watch) rfl

theorem State.keepsSignals_observe (l : LineId) (level : Level) : s.KeepsSignals (s.observe l level) := by
  have sensed : s.KeepsSignals (s.senseLine l level) := (State.modifyLine_same s l _).keepsSignals
  have watched := sensed.trans (.foldl (op := fun u n => u.watchLine l level n)
    (fun u n => u.keepsSignals_modifyNotices n _) (List.finRange 3) _)
  exact watched.trans (State.keepsSignals_wakeLine _ l level)

theorem State.keepsSignals_takeWake {k : Nat} {w : WakeWatch} (known : s.wakeWatches[k]? = some w) :
    s.KeepsSignals (s.takeWake k w) := by
  have listed : w ∈ s.wakeWatches := List.mem_of_getElem? known
  have watch : ∀ x ∈ s.wakeWatches.set k (w.deliver Filter.take).1,
      ∃ y ∈ s.wakeWatches, x.target = y.target ∧ x.view.isSome = y.view.isSome := fun x mem => by
    obtain kept | rfl := List.mem_or_eq_of_mem_set mem
    · exact ⟨x, kept, rfl, rfl⟩
    · exact ⟨w, listed, WakeWatch.deliver_same⟩
  unfold State.takeWake
  dsimp only
  split_ifs with raised
  · refine ⟨id, fun sound => sound.delivered (fun _ => rfl) (fun n high => ?_) watch rfl⟩
    rw [State.setWakeOut, Table.get_set] at high
    by_cases own : n = w.target
    · exact .inr ⟨w, listed, own.symm, WakeWatch.active_of_deliver raised⟩
    · rw [if_neg own] at high
      exact .inl high
  · exact ⟨id, fun sound => sound.delivered (fun _ => rfl) (fun _ => .inl) watch rfl⟩

theorem State.wakeDue_known {k : Nat} {w : WakeWatch} (due : s.wakeDue k = some w) : s.wakeWatches[k]? = some w := by
  obtain ⟨x, known, taken⟩ := Option.bind_eq_some_iff.mp due
  rw [Option.ite_none_right_eq_some] at taken
  rw [known, taken.2]

end

/-! ### The end of a load, restart and reset (R152 to R158) -/

/-- R153, R154: the end of a load opens no session and leaves the outputs; as none was open in STARTING, every wake
watch that it leaves is to be active. -/
theorem State.keepsSignals_of_loadEnded {s t : State} (load : s.loader.load.isSome = true)
    (lives : ∀ n, t.live n = s.live n) (attention : t.attention = s.attention) (out : t.wakeOut = s.wakeOut)
    (seeded : ∀ w ∈ t.wakeWatches, w.view.isSome = true) (ended : t.loader.load = none)
    (started : t.partState ≠ .starting) : s.KeepsSignals t where
  attention sound := sound.congr lives attention
  wakes := fun ⟨outLow, _, loading, starting⟩ => by
    have opens : ∀ n, t.isOpen n = s.isOpen n := fun n => by rw [State.isOpen, lives, State.isOpen]
    refine ⟨fun n high => ?_, fun w listed => ?_, fun still => ?_, fun part => absurd part started⟩
    · rw [opens]
      exact outLow n (out ▸ high)
    · rw [opens, starting (loading load)]
      exact iff_of_true (seeded w listed) rfl
    · simp [ended] at still

/-- With no session open, no attention output high and no wake watch left, both laws hold in STARTING. -/
theorem State.keepsSignals_of_cleared (s : State) {t : State} (closed : ∀ n, t.live n = none)
    (attention : t.attention = Vector.replicate 3 false) (watches : t.wakeWatches = [])
    (part : t.partState = .starting) : s.KeepsSignals t := by
  have shut : ∀ n, t.isOpen n = false := fun n => by rw [State.isOpen, closed, Option.isSome_none]
  refine ⟨fun _ n => ?_, fun _ => ⟨fun n _ => shut n, ?_, fun _ => part, fun _ => shut⟩⟩
  · rw [attention, Table.get_replicate, State.attentionDue, closed]
  · rw [watches]
    exact fun w listed => absurd listed List.not_mem_nil

/-- R91: the settings of the ports leave every session as open as it was, with what it holds. -/
theorem State.live_forceAgents (s : State) (settings : Port → Bool × Bool × Bool) (n : Port) :
    (s.forceAgents settings).live n = s.live n := by
  have set : (s.forceAgents settings).session n = { s.session n with
      configure := (settings n).1, priority := (settings n).2.1, presenceUsed := (settings n).2.2 } :=
    Table.get_ofFn _ n
  rw [State.live, set, State.live]

section
variable (s : State) (x : Image)

theorem State.force_attention : (s.force x).attention = s.attention := by
  dsimp only [State.force, State.forceAgents, State.forceStatics]

theorem State.force_wakeOut : (s.force x).wakeOut = s.wakeOut := by
  dsimp only [State.force, State.forceAgents, State.forceStatics]

theorem State.force_loader : (s.force x).loader = s.loader := by
  dsimp only [State.force, State.forceAgents, State.forceStatics]

theorem State.live_force (n : Port) : (s.force x).live n = s.live n := by
  rw [← State.live_forceAgents s (fun m => x.agents.get m) n]
  dsimp only [State.live, State.session, State.force, State.forceAgents, State.forceStatics]

/-- R153, step 4: every wake watch of an image in force is active. -/
theorem State.force_active {w : WakeWatch} (listed : w ∈ (s.force x).wakeWatches) : w.view.isSome = true := by
  obtain ⟨y, _, rfl⟩ := List.mem_map.mp listed
  rfl

end

section
variable (s : State)

theorem State.pinLine_same (l : LineId) : s.SameButLines (s.pinLine l) :=
  ((State.modifyLine_same s l _).trans (State.enterChecked_same _ l)).trans (State.driveTo_same _ l _)

theorem State.startUp_same : s.SameButLines s.startUp :=
  State.forLines_same (fun l u => by
    split_ifs
    · exact u.pinLine_same l
    · exact State.beginRelease_same u l .start _) allLines s

theorem State.resolveConflicts_same (x : Image) : s.SameButLines (s.resolveConflicts x) := by
  have pinned := State.forLines_same (op := fun l u => if (u.line l).static.pinned then u.pinLine l else u)
    (fun l u => by
      split_ifs
      · exact u.pinLine_same l
      · exact .refl u) allLines s
  have floated (ls : List LineId) (u : State) := State.forLines_same (fun l t => State.floatLine_same t l) ls u
  have tabled (u : State) (table : Vector InterlockSlot 32) : u.SameButLines { u with interlocks := table } := rfl
  exact (pinned.trans (floated _ _)).trans (tabled _ _)

theorem State.floatAll_same : s.SameButLines s.floatAll :=
  State.forLines_same (fun l u => by
    split_ifs
    · exact .refl u
    · exact State.floatLine_same u l) allLines s

variable {s} (load : s.loader.load.isSome = true)
include load

theorem State.keepsSignals_endReady (restart : Bool) (slot : FlashSlot) (generation : BitVec 32) (x : Image) :
    s.KeepsSignals (s.endReady restart slot generation x) := by
  unfold State.endReady
  generalize loaded : s.modifyLoader _ = u
  have forced : s.KeepsSignals (u.force x) := by
    subst loaded
    refine State.keepsSignals_of_loadEnded load (State.live_force _ x) (State.force_attention _ x)
      (State.force_wakeOut _ x) (fun w => State.force_active _ x) ?_ ?_
    · rw [State.force_loader]
      rfl
    · rw [State.partState, State.force_loader]
      exact nofun
  dsimp only
  split_ifs
  · exact forced.trans (State.resolveConflicts_same _ x).keepsSignals
  · exact forced.trans (State.startUp_same _).keepsSignals

theorem State.keepsSignals_endDegraded (restart : Bool) : s.KeepsSignals (s.endDegraded restart) := by
  unfold State.endDegraded
  generalize loaded : s.modifyLoader _ = u
  have degraded : s.KeepsSignals u.degrade := by
    subst loaded
    refine State.keepsSignals_of_loadEnded load (fun n => ?_) rfl rfl (fun w listed => ?_) rfl ?_
    · exact State.live_forceAgents _ _ n
    · exact absurd listed List.not_mem_nil
    · exact nofun
  dsimp only
  split_ifs
  · exact degraded.trans (State.floatAll_same _).keepsSignals
  · exact degraded

theorem State.keepsSignals_finishLoad (restart : Bool) : s.KeepsSignals (s.finishLoad restart) := by
  unfold State.finishLoad
  generalize read : s.modifyLoader _ = u
  have results : s.KeepsSignals u := read ▸ s.keepsSignals_modifyLoader rfl rfl
  have loading : u.loader.load.isSome = true := read ▸ load
  dsimp only
  split
  · exact results.trans (State.keepsSignals_endReady loading restart _ _ _)
  · exact results.trans (State.keepsSignals_endDegraded loading restart)

theorem State.keepsSignals_abandonLoad (restart : Bool) : s.KeepsSignals (s.abandonLoad restart) := by
  unfold State.abandonLoad
  generalize read : s.modifyLoader _ = u
  have results : s.KeepsSignals u := read ▸ s.keepsSignals_modifyLoader rfl rfl
  have loading : u.loader.load.isSome = true := read ▸ load
  exact results.trans (State.keepsSignals_endDegraded loading restart)

end

section
variable (s : State)

theorem Session.restarted_live (x : Session) : x.restarted.live = none := by
  unfold Session.restarted
  cases live : x.live with
  | none => exact live
  | some v => rfl

theorem State.keepsSignals_acceptRestart : s.KeepsSignals s.acceptRestart := by
  refine s.keepsSignals_of_cleared (fun n => ?_) rfl rfl rfl
  have restarted : s.acceptRestart.session n = (s.session n).restarted := Table.get_map Session.restarted s.sessions n
  rw [State.live, restarted, Session.restarted_live]

theorem decideRestart_keepsSignals : s.KeepsSignals (decideRestart s).state := by
  unfold decideRestart
  cases s.loader.flashOp with
  | some op => exact .refl s
  | none =>
    rw [Verdict.state]
    exact s.keepsSignals_acceptRestart

theorem State.keepsSignals_resetAll (left : FlashCells) : s.KeepsSignals (s.resetAll left) := by
  refine s.keepsSignals_of_cleared (fun n => ?_) rfl rfl rfl
  exact congrArg Session.live (Table.get_replicate Session.atReset n)

/-- R151: the release of the reset pin begins a load in STARTING with no session open. -/
theorem State.keepsSignals_release (left : FlashCells) (levels : BitVec 48) :
    s.KeepsSignals ((s.resetAll left).release levels) := by
  refine s.keepsSignals_of_cleared (fun n => ?_) rfl rfl rfl
  exact congrArg Session.live (Table.get_replicate Session.atReset n)

end

/-! ### Flash work and its ends (R160 to R165) -/

section
variable (s : State) (op : FlashOp)

theorem State.keepsSignals_answerFlash (n : Port) (reply : Reply) : s.KeepsSignals (s.answerFlash n reply) := by
  unfold State.answerFlash
  cases (s.port n).request with
  | none => exact .refl s
  | some r =>
    exact ((s.keepsSignals_modifyPort n _).trans (State.keepsSignals_modifyPort _ n _)).trans
      (State.keepsSignals_keepalive _ n)

theorem State.keepsSignals_endFlash (reply : Reply) : s.KeepsSignals (s.endFlash op reply) :=
  (s.keepsSignals_modifyLoader (f := fun r => { r with flashOp := none }) rfl rfl).trans
    (State.keepsSignals_answerFlash _ op.port reply)

theorem State.keepsSignals_setSpare (x : SpareState) : s.KeepsSignals (s.setSpare x) :=
  s.keepsSignals_modifyLoader rfl rfl

theorem State.keepsSignals_leave (m : List Host.Cell) (left : FlashCells) : s.KeepsSignals (s.leave op m left) :=
  .of_signals_eq rfl

theorem State.keepsSignals_failFlash (failure : FlashFailure) : s.KeepsSignals (s.failFlash op failure) :=
  (s.keepsSignals_modifyLoader (f := fun r => { r with lastFailure := some (failure, s.lineTime) }) rfl rfl).trans
    (State.keepsSignals_endFlash _ op _)

theorem State.keepsSignals_damage (failure : FlashFailure) : s.KeepsSignals (s.damage op failure) :=
  (s.keepsSignals_setSpare .damaged).trans (State.keepsSignals_failFlash _ op failure)

theorem State.keepsSignals_endErase (left : FlashCells) : s.KeepsSignals (s.endErase op left) := by
  have erased := s.keepsSignals_leave op (runCommands (eraseCommands s.loader.spare) s.flash) left
  unfold State.endErase
  dsimp only
  split_ifs
  · exact (erased.trans (State.keepsSignals_setSpare _ .erased)).trans (State.keepsSignals_endFlash _ op _)
  · exact erased.trans (State.keepsSignals_damage _ op _)

theorem State.keepsSignals_endWrite (offset : Nat) (data : List Byte) (left : FlashCells) :
    s.KeepsSignals (s.endWrite op offset data left) := by
  have written := s.keepsSignals_leave op
    (runCommands (programCommands (s.loader.spare.base + offset) data) s.flash) left
  unfold State.endWrite
  dsimp only
  split_ifs
  · exact (written.trans (State.keepsSignals_setSpare _ .writing)).trans (State.keepsSignals_endFlash _ op _)
  · exact written.trans (State.keepsSignals_damage _ op _)

theorem State.keepsSignals_committed : s.KeepsSignals (s.committed op) :=
  (s.keepsSignals_setSpare .committed).trans (State.keepsSignals_endFlash _ op _)

theorem State.keepsSignals_programMarker (left : FlashCells) : s.KeepsSignals (s.programMarker op left) := by
  unfold State.programMarker
  dsimp only
  split_ifs
  · exact (s.keepsSignals_leave op _ left).trans (State.keepsSignals_committed _ op)
  · exact (s.keepsSignals_leave op _ left).trans (State.keepsSignals_damage _ op _)

theorem State.keepsSignals_endCommit (left : FlashCells) : s.KeepsSignals (s.endCommit op left) := by
  unfold State.endCommit
  split
  · exact s.keepsSignals_endFlash op _
  · split_ifs
    · exact s.keepsSignals_committed op
    · exact s.keepsSignals_programMarker op left

/-- R161 to R163: an erase or a program that does not end leaves the spare DAMAGED. -/
theorem State.keepsSignals_leave_damage (m : List Host.Cell) (left : FlashCells) (failure : FlashFailure) :
    s.KeepsSignals ((s.leave op m left).damage op failure) :=
  (s.keepsSignals_leave op m left).trans (State.keepsSignals_damage _ op failure)

end

/-! ### The outcome of a command -/

/-- Where the outcome is a next state, it keeps the laws. -/
def State.OutcomeKeepsSignals (s : State) : Host.Outcome State Fault Refusal → Prop
  | .next t => s.KeepsSignals t
  | .fault _ => True
  | .refused _ => True

section
variable (s : State)

/-- R97 to R99: OPEN is decided only where the part state serves it. -/
theorem execOpen_keepsSignals (h : Header) (period : BitVec 16) (limit mask : Byte) (sensed : Level) :
    s.OutcomeKeepsSignals (execOpen h period limit mask sensed s) :=
  (s.keepsSignals_sense h.port sensed).trans (State.keepsSignals_serve _ h 4
    (checked_keepsSignals .exempt .none _ fun a u served => decideOpen_keepsSignals h.port u a served))

/-! ### Transactions and the presence inputs (R103, R171 to R178) -/

theorem State.keepsSignals_setDecoder (n : Port) (p : Decoder × Nat) : s.KeepsSignals (s.setDecoder n p) :=
  s.keepsSignals_modifyPort n _

theorem execBadFrame_keepsSignals (n : Port) (seq : Option Byte) (cause : FrameFault) (received : Nat) :
    s.OutcomeKeepsSignals (execBadFrame n seq cause received s) := by
  have ignored := s.keepsSignals_modifyPort n fun p =>
    { p with decoder := .skip, received := 1, request := p.request.map fun r => { r with ignored := true } }
  have refused : s.KeepsSignals (s.refuseFrame n seq cause received) :=
    ((s.keepsSignals_modifyPort n _).trans (State.keepsSignals_modifyPort _ n _)).trans
      (State.keepsSignals_setDecoder _ n _)
  exact State.KeepsSignals.ite (.ite (ignored.trans (State.keepsSignals_setDecoder _ n _)) refused) (.refl s)

theorem execResponseConsumed_keepsSignals (n : Port) : s.OutcomeKeepsSignals (execResponseConsumed n s) := by
  rw [execResponseConsumed, State.OutcomeKeepsSignals]
  split
  · exact .refl s
  · exact s.keepsSignals_modifyPort n _

theorem State.keepsSignals_losePresence (n : Port) (midFrame : Bool) : s.KeepsSignals (s.losePresence n midFrame) := by
  unfold State.losePresence
  split_ifs
  · cases s.partState with
    | starting => exact .refl s
    | ready => exact (s.keepsSignals_modifyPort n _).trans (State.keepsSignals_endSession _ n .presence)
    | degraded => exact s.keepsSignals_endSession n .presence
  · exact .refl s

theorem execPresenceFall_keepsSignals (n : Port) (midFrame : Bool) :
    s.OutcomeKeepsSignals (execPresenceFall n midFrame s) := by
  have sensed := s.keepsSignals_sense n false
  exact State.KeepsSignals.ite sensed (sensed.trans (State.keepsSignals_losePresence _ n midFrame))

/-! ### The events, each of which acts where it is due (log 6) -/

theorem State.load_of_loading {r : LoadRun} (loading : s.loading = some r) : s.loader.load.isSome = true := by
  unfold State.loading at loading
  split_ifs at loading
  rw [loading, Option.isSome_some]

theorem execLoadEnd_keepsSignals : s.OutcomeKeepsSignals (execLoadEnd s) := by
  rw [execLoadEnd, State.OutcomeKeepsSignals]
  cases loading : s.loading with
  | none => exact .refl s
  | some r => exact State.keepsSignals_finishLoad (s.load_of_loading loading) r.restart

theorem execLoadStatusTimeout_keepsSignals : s.OutcomeKeepsSignals (execLoadStatusTimeout s) := by
  rw [execLoadStatusTimeout, State.OutcomeKeepsSignals]
  cases timeout : s.loadTimeout with
  | none => exact .refl s
  | some r =>
    obtain ⟨_, loading, _⟩ := Option.bind_eq_some_iff.mp timeout
    exact State.keepsSignals_abandonLoad (s.load_of_loading loading) r.restart

theorem execStageEnd_keepsSignals (l : LineId) : s.OutcomeKeepsSignals (execStageEnd l s) := by
  rw [execStageEnd, State.OutcomeKeepsSignals]
  split
  · exact .refl s
  · exact s.keepsSignals_endStage l _

theorem execPatienceDeadline_keepsSignals (n : Port) (k : TicketId) :
    s.OutcomeKeepsSignals (execPatienceDeadline n k s) := by
  rw [execPatienceDeadline, State.OutcomeKeepsSignals]
  split
  · exact .refl s
  · exact s.keepsSignals_removeEntry_setTicket _ _ _

theorem State.keepsSignals_passPeriod (n : Port) : s.KeepsSignals (s.passPeriod n) := by
  unfold State.passPeriod
  dsimp only
  split
  · exact .refl s
  · split_ifs
    · exact s.keepsSignals_modifyLive n fun v _ => v.alerts_retimed _ _
    · exact s.keepsSignals_modifyLive n fun v _ => v.alerts_retimed _ _
    · exact s.keepsSignals_endSession n .keepalive

theorem execFilterDeadline_keepsSignals (n : Port) (id : WatchId) :
    s.OutcomeKeepsSignals (execFilterDeadline n id s) := by
  rw [execFilterDeadline, State.OutcomeKeepsSignals]
  split
  · exact .refl s
  · exact s.keepsSignals_modifyNotices n _

theorem execWakeFilterDeadline_keepsSignals (k : Fin 8) : s.OutcomeKeepsSignals (execWakeFilterDeadline k s) := by
  rw [execWakeFilterDeadline, State.OutcomeKeepsSignals]
  cases due : s.wakeDue k.val with
  | none => exact .refl s
  | some w => exact s.keepsSignals_takeWake (s.wakeDue_known due)

/-! ### The ends of flash work, each of the operation in progress of its own kind (R160) -/

theorem execEraseEnd_keepsSignals (left : FlashCells) : s.OutcomeKeepsSignals (execEraseEnd left s) := by
  rw [execEraseEnd, State.OutcomeKeepsSignals]
  split
  · exact .refl s
  · split
    · exact s.keepsSignals_endErase _ left
    all_goals exact .refl s

theorem execEraseTimeout_keepsSignals (wait : FlashWait) : s.OutcomeKeepsSignals (execEraseTimeout wait s) := by
  rw [execEraseTimeout, State.OutcomeKeepsSignals]
  split
  · exact .refl s
  · split
    · exact s.keepsSignals_leave_damage _ _ wait.left _
    all_goals exact .refl s

theorem execWriteEnd_keepsSignals (left : FlashCells) : s.OutcomeKeepsSignals (execWriteEnd left s) := by
  rw [execWriteEnd, State.OutcomeKeepsSignals]
  split
  · exact .refl s
  · split
    · exact s.keepsSignals_endWrite _ _ _ left
    all_goals exact .refl s

theorem execProgramTimeout_keepsSignals (wait : FlashWait) : s.OutcomeKeepsSignals (execProgramTimeout wait s) := by
  rw [execProgramTimeout, State.OutcomeKeepsSignals]
  split
  · exact .refl s
  · split
    · exact s.keepsSignals_leave_damage _ _ wait.left _
    · exact .ite (s.keepsSignals_leave_damage _ _ wait.left _) (.refl s)
    all_goals exact .refl s

theorem execCommitEnd_keepsSignals (left : FlashCells) : s.OutcomeKeepsSignals (execCommitEnd left s) := by
  rw [execCommitEnd, State.OutcomeKeepsSignals]
  split
  · exact .refl s
  · split
    · exact s.keepsSignals_endCommit _ left
    all_goals exact .refl s

theorem execReadEnd_keepsSignals : s.OutcomeKeepsSignals (execReadEnd s) := by
  rw [execReadEnd, State.OutcomeKeepsSignals]
  split
  · exact .refl s
  · split
    · exact s.keepsSignals_endFlash _ _
    all_goals exact .refl s

theorem execFlashStatusBusy_keepsSignals : s.OutcomeKeepsSignals (execFlashStatusBusy s) := by
  rw [execFlashStatusBusy, State.OutcomeKeepsSignals]
  split
  · exact .refl s
  · exact s.keepsSignals_failFlash _ _

end

/-! ### Every command, the part's clock and every step -/

theorem exec_keepsSignals (s : State) : ∀ i : Instr, s.OutcomeKeepsSignals (exec i s)
  | .openSession h p l m v => execOpen_keepsSignals s h p l m v
  | .closeSession h => s.keepsSignals_request h _ _ _ _ _ fun _ u => u.keepsSignals_endSession h.port .closed
  | .tick h => s.keepsSignals_request h _ _ _ _ _ fun _ => .refl
  | .setMask h _ => s.keepsSignals_request h _ _ _ _ _ fun _ u => u.keepsSignals_modifyNotices h.port _
  | .status h => s.keepsSignals_request h _ _ _ _ _ fun _ => .refl
  | .identify h => s.keepsSignals_request h _ _ _ _ _ fun _ => .refl
  | .claim h .. => s.keepsSignals_request h _ _ _ _ _ fun a u => decideClaim_keepsSignals h.port u a
  | .cancel h _ => s.keepsSignals_request h _ _ _ _ _ fun k u => decideCancel_keepsSignals h.port u k
  | .release h _ => s.keepsSignals_request h _ _ _ _ _ fun t u => decideRelease_keepsSignals h.port u t
  | .setDrives h _ => s.keepsSignals_request h _ _ _ _ _ fun es u => decideSet_keepsSignals h.port u es
  | .setHeir h .. => s.keepsSignals_request h _ _ _ _ _ fun a u => decideSetHeir_keepsSignals h.port u a
  | .extend h .. => s.keepsSignals_request h _ _ _ _ _ fun a u => decideExtend_keepsSignals h.port u a
  | .clearFault h _ => s.keepsSignals_request h _ _ _ _ _ fun l u => decideClearFault_keepsSignals h.port u l
  | .snapshot h => s.keepsSignals_request h _ _ _ _ _ fun _ => .refl
  | .inspect h _ => s.keepsSignals_request h _ _ _ _ _ fun _ => .refl
  | .addInterlock h .. => s.keepsSignals_request h _ _ _ _ _ fun r u => decideAddInterlock_keepsSignals h.port u r
  | .dropInterlock h _ => s.keepsSignals_request h _ _ _ _ _ fun k u => decideDropInterlock_keepsSignals u k
  | .listInterlocks h => s.keepsSignals_request h _ _ _ _ _ fun _ => .refl
  | .storeSequence h .. => s.keepsSignals_request h _ _ _ _ _ fun a u => decideStore_keepsSignals u a
  | .dropSequence h _ => s.keepsSignals_request h _ _ _ _ _ fun q u => decideDropSequence_keepsSignals u q
  | .runSequence h _ => s.keepsSignals_request h _ _ _ _ _ fun q u => decideRun_keepsSignals h.port u q
  | .abortRun h _ => s.keepsSignals_request h _ _ _ _ _ fun k u => decideAbort_keepsSignals h.port u k
  | .addWatch h .. => s.keepsSignals_request h _ _ _ _ _ fun a u => decideAddWatch_keepsSignals h.port u a
  | .dropWatch h _ => s.keepsSignals_request h _ _ _ _ _ fun id u => decideDropWatch_keepsSignals h.port u id
  | .notices h => s.keepsSignals_request h _ _ _ _ _ fun _ => .refl
  | .ack h _ => s.keepsSignals_request h _ _ _ _ _ fun _ u => u.keepsSignals_modifyNotices h.port _
  | .profileRead h .. => s.keepsSignals_request h _ _ _ _ _ fun w u => decideFlash_keepsSignals h.port u w
  | .profileErase h => s.keepsSignals_request h _ _ _ _ _ fun w u => decideFlash_keepsSignals h.port u w
  | .profileWrite h .. => s.keepsSignals_request h _ _ _ _ _ fun w u => decideFlash_keepsSignals h.port u w
  | .profileCommit h => s.keepsSignals_request h _ _ _ _ _ fun w u => decideFlash_keepsSignals h.port u w
  | .restart h => s.keepsSignals_request h _ _ _ _ _ fun _ => decideRestart_keepsSignals
  | .badFrame n q c r => execBadFrame_keepsSignals s n q c r
  | .badRequest h _ _ => s.keepsSignals_serve h _ .refl
  | .requestIgnored n => State.KeepsSignals.ite (s.keepsSignals_modifyPort n _) (.refl s)
  | .collect n => State.KeepsSignals.ite (s.keepsSignals_modifyPort n _) (.refl s)
  | .responseConsumed n => execResponseConsumed_keepsSignals s n
  | .presenceFall n m => execPresenceFall_keepsSignals s n m
  | .resetLow left => s.keepsSignals_resetAll left
  | .resetRelease v left => s.keepsSignals_release left v
  | .loadEnd => execLoadEnd_keepsSignals s
  | .loadStatusTimeout => execLoadStatusTimeout_keepsSignals s
  | .observedLevelChange l v => State.KeepsSignals.ite (.refl s) (s.keepsSignals_observe l v)
  | .stageEnd l => execStageEnd_keepsSignals s l
  | .readbackDeadline l => State.KeepsSignals.ite (s.keepsSignals_fireReadback l) (.refl s)
  | .termDeadline l => State.KeepsSignals.ite (s.keepsSignals_reachTerm l) (.refl s)
  | .patienceDeadline n k => execPatienceDeadline_keepsSignals s n k
  | .periodDeadline n => State.KeepsSignals.ite (s.keepsSignals_passPeriod n) (.refl s)
  | .holdDeadline k => State.KeepsSignals.ite (s.keepsSignals_endHold k) (.refl s)
  | .filterDeadline n id => execFilterDeadline_keepsSignals s n id
  | .wakeFilterDeadline k => execWakeFilterDeadline_keepsSignals s k
  | .eraseEnd left => execEraseEnd_keepsSignals s left
  | .eraseTimeout wait => execEraseTimeout_keepsSignals s wait
  | .writeEnd left => execWriteEnd_keepsSignals s left
  | .programTimeout wait => execProgramTimeout_keepsSignals s wait
  | .commitEnd left => execCommitEnd_keepsSignals s left
  | .readEnd => execReadEnd_keepsSignals s
  | .selectRelease n => State.KeepsSignals.ite (.refl s) (s.keepsSignals_modifyPort n _)
  | .ignoredTransaction n => State.KeepsSignals.ite (s.keepsSignals_setDecoder n _) (.refl s)
  | .flashStatusBusy => execFlashStatusBusy_keepsSignals s

theorem State.OutcomeKeepsSignals.after {s u : State} {o : Host.Outcome State Fault Refusal} (before : s.KeepsSignals u)
    (keeps : u.OutcomeKeepsSignals o) : s.OutcomeKeepsSignals o := by
  cases o with
  | next t => exact before.trans keeps
  | fault r => trivial
  | refused r => trivial

/-- R129: the choice among the deadlines that are due counts itself, and nothing else. -/
theorem State.keepsSignals_nextDue {s u : State} {c : Instr} (due : s.nextDue = some (c, u)) : s.KeepsSignals u := by
  unfold State.nextDue at due
  split at due
  · simp at due
  · obtain ⟨rfl, rfl⟩ := due
    exact .refl s
  · obtain ⟨rfl, rfl⟩ := due
    exact .of_signals_eq rfl

theorem idle_keepsSignals (s : State) : s.OutcomeKeepsSignals (idle s) := by
  unfold idle
  split_ifs
  · exact State.KeepsSignals.refl s
  · split
    · exact State.KeepsSignals.of_signals_eq rfl
    · next c u due => exact (exec_keepsSignals u c).after (State.keepsSignals_nextDue due)

theorem step_keepsSignals (s : State) : s.OutcomeKeepsSignals (step s) := by
  unfold step
  split
  · next c rest _ =>
    have taken : s.KeepsSignals { s with pending := rest } := .of_signals_eq rfl
    exact (exec_keepsSignals _ c).after taken
  · exact idle_keepsSignals s

/-- Settles O59: a step is a command, a microsecond of the part's clock or nothing; each of these keeps both laws. -/
theorem everyStepKeepsAttentionExact : Obligations.EveryStepKeepsAttentionExact := by
  have keeps : ∀ s t : State, step s = .next t → s.KeepsSignals t := fun s t next => by
    have kept := step_keepsSignals s
    rwa [next] at kept
  exact ⟨fun s t sound next => (keeps s t next).attention sound, fun s t sound next => (keeps s t next).wakes sound⟩

end Sys2Proof.Machine

/-! PROOFS of the family of the watches, notices and wake, continued: ADD_WATCH and DROP_WATCH (O41), then the order and
the members of the pending notices, and with them NOTICES (O42). -/

namespace Sys2Proof.Machine

/-! ### The arguments of ADD_WATCH (R130) -/

theorem edgeArg_eq_none {b : Byte} (outOfRange : 2 < b.toNat) : edgeArg b = none := by
  have not0 : b ≠ 0 := by rintro rfl; simp at outOfRange
  have not1 : b ≠ 1 := by rintro rfl; simp at outOfRange
  have not2 : b ≠ 2 := by rintro rfl; simp at outOfRange
  rw [edgeArg, if_neg not0, if_neg not1, if_neg not2]

theorem watchArgs_eq_none {line edge urgency : Byte} {filter : BitVec 16}
    (outOfRange : 47 < line.toNat ∨ 2 < edge.toNat ∨ 50000 < filter.toNat ∨ 1 < urgency.toNat) :
    watchArgs line edge filter urgency = none := by
  rw [watchArgs]
  obtain line | edge | filter | urgency := outOfRange
  · rw [lineArg, numberBelow_of_le line, Option.bind_none]
  · simp only [edgeArg_eq_none edge, Option.bind_none, Option.bind_fun_none]
  · simp only [within_eq_none_of_lt filter, Option.bind_none, Option.bind_fun_none]
  · simp only [watchUrgencyArg, levelArg_eq_none urgency, Option.map_none, Option.bind_fun_none]

/-! ### The watch records of an open session -/

section
variable {s : State} {n : Port} {v : Live}

theorem State.modifyLive_of_live (f : Live → Live) (live : s.live n = some v) :
    s.modifyLive n f = s.setSession n { s.session n with live := some (f v) } := by
  rw [State.modifyLive, live, Option.map_some]

theorem State.watch_of_live (id : WatchId) (live : s.live n = some v) : s.watch n id = v.watches.get id := by
  rw [State.watch, live, Option.bind_some]

/-- R130: every id is in use. -/
theorem State.freeWatch_eq_none (live : s.live n = some v) (full : ∀ id, v.watches.get id ≠ none) :
    s.freeWatch n = none := by
  rw [State.freeWatch, live, Option.bind_some, Table.lowest_eq_none_iff]
  exact fun id free => full id (of_decide_eq_true free)

/-- R130: the lowest id that is not in use. -/
theorem State.freeWatch_eq_some {id : WatchId} (live : s.live n = some v) (free : v.watches.get id = none)
    (below : ∀ j, j < id → v.watches.get j ≠ none) : s.freeWatch n = some id := by
  rw [State.freeWatch, live, Option.bind_some, Table.lowest_eq_some_iff]
  exact ⟨decide_eq_true free, fun j lower unused => below j lower (of_decide_eq_true unused)⟩

theorem decideAddWatch_full (a : WatchArgs) (full : s.freeWatch n = none) :
    decideAddWatch n a s = .done s (Reply.bare .tableFull) := by
  rw [decideAddWatch, full]

theorem decideAddWatch_free {id : WatchId} (a : WatchArgs) (live : s.live n = some v)
    (free : s.freeWatch n = some id) :
    decideAddWatch n a s = .done
      (s.setSession n { s.session n with live := some (v.setWatch id (some (a.record (s.line a.line).observed))) })
      (Reply.of .ok (.watchAdded id (s.line a.line).observed s.lineTime)) := by
  simp only [decideAddWatch, free, State.modifyLive_of_live _ live]

theorem decideDropWatch_absent {id : WatchId} (absent : s.watch n id = none) :
    decideDropWatch n id s = .done s (Reply.bare .notFound) := by
  rw [decideDropWatch, absent]

/-- R133: the record goes with its notice, so the attention output is re-evaluated. -/
theorem decideDropWatch_present {id : WatchId} (live : s.live n = some v) (present : v.watches.get id ≠ none) :
    decideDropWatch n id s = .done { s with
      sessions := s.sessions.set n { s.session n with live := some (v.setWatch id none) }
      attention := s.attention.set n (v.setWatch id none).alerts } (Reply.bare .ok) := by
  obtain ⟨w, record⟩ := Option.ne_none_iff_exists'.mp present
  rw [decideDropWatch, State.watch_of_live id live, record]
  exact congrArg (Verdict.done · _) (State.modifyNotices_of_live (fun v => v.setWatch id none) live)

end

/-! ### ADD_WATCH and DROP_WATCH (R130, R133) -/

theorem exec_addWatch (h : Header) (line edge : Byte) (filter : BitVec 16) (urgency : Byte) (s : State) :
    exec (.addWatch h line edge filter urgency) s = execAddWatch h line edge filter urgency s := rfl

theorem exec_dropWatch (h : Header) (id : Byte) (s : State) : exec (.dropWatch h id) s = execDropWatch h id s := rfl

/-- An ADD_WATCH that is heard is answered as the owning block decides on its arguments. -/
theorem exec_addWatch_heard {h : Header} {line edge urgency : Byte} {filter : BitVec 16} {a : WatchArgs} {s t : State}
    {r : Reply} (hears : s.Hears h .readyOnly .none) (args : watchArgs line edge filter urgency = some a)
    (decided : decideAddWatch h.port a (s.heard h 5) = .done t r) :
    exec (.addWatch h line edge filter urgency) s = .next (t.answered s h r) := by
  rw [exec_addWatch, execAddWatch, args, State.serve_heard hears decided]

/-- A DROP_WATCH that is heard is answered as the owning block decides on the record of that id. -/
theorem exec_dropWatch_heard {h : Header} {byte : Byte} {id : WatchId} {s t : State} {r : Reply}
    (hears : s.Hears h .readyOnly .none) (inRange : byte.toNat = id.val)
    (decided : decideDropWatch h.port id (s.heard h 1) = .done t r) :
    exec (.dropWatch h byte) s = .next (t.answered s h r) := by
  rw [exec_dropWatch, execDropWatch, numberBelow_of_eq inRange, State.serve_heard hears decided]

/-- Settles O41: the lowest free id of the session's records is what the table's search finds, the seed is the level
observed in the state the request arrives in, and a dropped record is a change of notices. -/
theorem addAndDropWatch : Obligations.AddAndDropWatch := by
  unfold Obligations.AddAndDropWatch
  refine ⟨fun h v s hears => ⟨fun line edge filter urgency a args live => ⟨fun full => ?_, fun id free below => ?_⟩,
    fun byte id inRange live => ⟨fun absent => ?_, fun present => ?_⟩⟩,
    fun h s hears => ⟨fun line edge filter urgency outOfRange => ?_, fun id outOfRange => ?_⟩⟩
  · exact exec_addWatch_heard hears args (decideAddWatch_full a (State.freeWatch_eq_none live full))
  · have lowest := State.freeWatch_eq_some live free below
    exact exec_addWatch_heard hears args (decideAddWatch_free a live lowest)
  · exact exec_dropWatch_heard hears inRange (decideDropWatch_absent ((State.watch_of_live id live).trans absent))
  · exact exec_dropWatch_heard hears inRange (decideDropWatch_present live present)
  · rw [exec_addWatch, execAddWatch, watchArgs_eq_none outOfRange, State.serve_badArgument _ hears]
  · rw [exec_dropWatch, execDropWatch, numberBelow_of_le outOfRange, State.serve_badArgument _ hears]

/-! ### Presentation order (R138) -/

/-- R138: urgent notices first, then by kind, then by index. -/
def Notice.Before (a b : Notice) : Prop :=
  (a.urgent = true ∧ b.urgent = false) ∨ (a.urgent = b.urgent ∧
    (a.kind.number < b.kind.number ∨ (a.kind = b.kind ∧ a.index < b.index)))

/-- The first two keys of R138 as one number: the urgent kinds, then the kinds of normal urgency. -/
def Notice.rank (x : Notice) : Nat := if x.urgent then x.kind.number else 9 + x.kind.number

theorem NoticeKind.number_le (k : NoticeKind) : k.number ≤ 9 := by cases k <;> decide

theorem Notice.before_of_rank_lt {a b : Notice} (lower : a.rank < b.rank) : a.Before b := by
  have atMost := a.kind.number_le
  have atMost' := b.kind.number_le
  unfold Notice.rank at lower
  unfold Notice.Before
  cases urgent : a.urgent <;> cases urgent' : b.urgent <;>
    simp only [urgent, urgent', if_true, if_false, Bool.false_eq_true] at lower
  · exact .inr ⟨rfl, .inl (by omega)⟩
  · omega
  · exact .inl ⟨rfl, rfl⟩
  · exact .inr ⟨rfl, .inl lower⟩

/-- Notices of one urgency and one kind, by ascending index. -/
structure Notice.Block (urgent : Bool) (kind : NoticeKind) (items : List Notice) : Prop where
  alike : ∀ x ∈ items, x.urgent = urgent ∧ x.kind = kind
  ascending : items.Pairwise fun a b => a.index < b.index

/-- A table read by ascending index, with at most one notice of each entry, is a block. -/
theorem Notice.block_filterMap {m : Nat} {urgent : Bool} {kind : NoticeKind} {item : Fin m → Option Notice}
    (shape : ∀ i x, item i = some x → x.urgent = urgent ∧ x.kind = kind ∧ x.index = i.val) :
    Notice.Block urgent kind ((List.finRange m).filterMap item) where
  alike x mem := by
    obtain ⟨i, -, found⟩ := List.mem_filterMap.mp mem
    obtain ⟨urgency, kind, -⟩ := shape i x found
    exact ⟨urgency, kind⟩
  ascending := (List.pairwise_lt_finRange m).filterMap item fun i j lower x found y found' => by
    obtain ⟨-, -, index⟩ := shape i x found
    obtain ⟨-, -, index'⟩ := shape j y found'
    rw [index, index']
    exact lower

/-- A list in presentation order whose notices have at most a rank. -/
structure Notice.OrderedTo (rank : Nat) (items : List Notice) : Prop where
  ordered : items.Pairwise Notice.Before
  atMost : ∀ x ∈ items, x.rank ≤ rank

theorem Notice.OrderedTo.nil (rank : Nat) : Notice.OrderedTo rank [] :=
  ⟨List.Pairwise.nil, fun _ mem => absurd mem List.not_mem_nil⟩

/-- A block of a higher rank may follow. -/
theorem Notice.OrderedTo.append {rank : Nat} {urgent : Bool} {kind : NoticeKind} {items block : List Notice}
    (before : Notice.OrderedTo rank items) (next : Notice.Block urgent kind block)
    (higher : rank < if urgent then kind.number else 9 + kind.number) :
    Notice.OrderedTo (if urgent then kind.number else 9 + kind.number) (items ++ block) := by
  have rankOf : ∀ x ∈ block, x.rank = if urgent then kind.number else 9 + kind.number := fun x mem => by
    obtain ⟨urgency, sort⟩ := next.alike x mem
    rw [Notice.rank, urgency, sort]
  refine ⟨List.pairwise_append.mpr ⟨before.ordered, ?_, fun x mem y mem' => ?_⟩, fun x mem => ?_⟩
  · refine next.ascending.imp_of_mem fun {x y} mem mem' lower => ?_
    obtain ⟨urgency, sort⟩ := next.alike x mem
    obtain ⟨urgency', sort'⟩ := next.alike y mem'
    exact .inr ⟨urgency.trans urgency'.symm, .inr ⟨sort.trans sort'.symm, lower⟩⟩
  · refine Notice.before_of_rank_lt (Nat.lt_of_le_of_lt (before.atMost x mem) ?_)
    rwa [rankOf y mem']
  · obtain earlier | own := List.mem_append.mp mem
    · exact (before.atMost x earlier).trans higher.le
    · exact (rankOf x own).le

/-! ### The blocks of a session's pending notices (R136, 7.3) -/

section
variable (v : Live)

theorem Live.seqHaltedItems_block : Notice.Block true .seqHalted v.seqHaltedItems :=
  Notice.block_filterMap fun q x item => by
    split at item <;> cases item
    exact ⟨rfl, rfl, rfl⟩

theorem Live.seqFinishedItems_block : Notice.Block false .seqFinished v.seqFinishedItems :=
  Notice.block_filterMap fun q x item => by
    split at item <;> cases item
    exact ⟨rfl, rfl, rfl⟩

theorem Live.grantedItems_block : Notice.Block false .claimGranted v.grantedItems :=
  Notice.block_filterMap fun k x item => by
    split at item <;> cases item
    exact ⟨rfl, rfl, rfl⟩

theorem Live.expiredItems_block : Notice.Block false .claimExpired v.expiredItems :=
  Notice.block_filterMap fun k x item => by
    split at item <;> cases item
    exact ⟨rfl, rfl, rfl⟩

theorem Live.faultedItems_block : Notice.Block true .lineFaulted v.faultedItems :=
  Notice.block_filterMap fun l x item => by
    obtain ⟨time, -, rfl⟩ := Option.map_eq_some_iff.mp item
    exact ⟨rfl, rfl, rfl⟩

theorem Live.inheritedItems_block : Notice.Block true .lineInherited v.inheritedItems :=
  Notice.block_filterMap fun l x item => by
    obtain ⟨p, -, rfl⟩ := Option.map_eq_some_iff.mp item
    exact ⟨rfl, rfl, rfl⟩

theorem Live.termEndedItems_block : Notice.Block false .termEnded v.termEndedItems :=
  Notice.block_filterMap fun l x item => by
    obtain ⟨time, -, rfl⟩ := Option.map_eq_some_iff.mp item
    exact ⟨rfl, rfl, rfl⟩

theorem Live.lossItems_block : Notice.Block false .agentLost v.lossItems :=
  Notice.block_filterMap fun n x item => by
    obtain ⟨p, -, rfl⟩ := Option.map_eq_some_iff.mp item
    exact ⟨rfl, rfl, rfl⟩

/-- The watch items of an urgency, each of a pending watch of that urgency. -/
theorem Live.watchItems_block (urgent : Bool) : Notice.Block urgent .watchEdge (v.watchItems urgent) :=
  Notice.block_filterMap fun id x item => by
    split at item
    · cases item
    · obtain ⟨-, pending⟩ := Option.ite_none_right_eq_some.mp item
      obtain ⟨e, -, rfl⟩ := Option.map_eq_some_iff.mp pending
      exact ⟨rfl, rfl, rfl⟩

/-- R138: the blocks follow one another by urgency and kind. -/
theorem Live.pendingNotices_ordered : v.pendingNotices.Pairwise Notice.Before := by
  have urgent := ((((Notice.OrderedTo.nil 0).append v.seqHaltedItems_block (by decide)).append
    v.faultedItems_block (by decide)).append v.inheritedItems_block (by decide)).append
    (v.watchItems_block true) (by decide)
  have all := (((((urgent.append (v.watchItems_block false) (by decide)).append v.lossItems_block (by decide)).append
    v.grantedItems_block (by decide)).append v.expiredItems_block (by decide)).append
    v.termEndedItems_block (by decide)).append v.seqFinishedItems_block (by decide)
  rw [Live.pendingNotices, Live.urgentNotices, Live.normalNotices]
  simpa only [List.nil_append, List.append_assoc] using all.ordered

/-! ### The members of the blocks -/

variable {v} {x : Notice}

theorem Live.mem_seqHaltedItems : x ∈ v.seqHaltedItems ↔
    ∃ q slot step reason time, v.outcomes.get q = some (.halted slot step reason time) ∧
      x = ⟨.seqHalted, q.val, true, .seqHalted slot step reason time⟩ := by
  refine List.mem_filterMap.trans ⟨fun ⟨q, _, item⟩ => ?_, ?_⟩
  · split at item <;> cases item
    exact ⟨q, _, _, _, _, ‹_›, rfl⟩
  · rintro ⟨q, slot, step, reason, time, halted, rfl⟩
    exact ⟨q, List.mem_finRange q, by simp only [halted]⟩

theorem Live.mem_seqFinishedItems : x ∈ v.seqFinishedItems ↔
    ∃ q slot time, v.outcomes.get q = some (.finished slot time) ∧
      x = ⟨.seqFinished, q.val, false, .seqFinished slot time⟩ := by
  refine List.mem_filterMap.trans ⟨fun ⟨q, _, item⟩ => ?_, ?_⟩
  · split at item <;> cases item
    exact ⟨q, _, _, ‹_›, rfl⟩
  · rintro ⟨q, slot, time, finished, rfl⟩
    exact ⟨q, List.mem_finRange q, by simp only [finished]⟩

theorem Live.mem_grantedItems : x ∈ v.grantedItems ↔
    ∃ k target time applied, v.tickets.get k = .granted target time applied ∧
      x = ⟨.claimGranted, k.val, false, .claimGranted target time applied⟩ := by
  refine List.mem_filterMap.trans ⟨fun ⟨k, _, item⟩ => ?_, ?_⟩
  · split at item <;> cases item
    exact ⟨k, _, _, _, ‹_›, rfl⟩
  · rintro ⟨k, target, time, applied, granted, rfl⟩
    exact ⟨k, List.mem_finRange k, by simp only [granted]⟩

theorem Live.mem_expiredItems : x ∈ v.expiredItems ↔
    ∃ k target time, v.tickets.get k = .expired target time ∧
      x = ⟨.claimExpired, k.val, false, .claimExpired target time⟩ := by
  refine List.mem_filterMap.trans ⟨fun ⟨k, _, item⟩ => ?_, ?_⟩
  · split at item <;> cases item
    exact ⟨k, _, _, ‹_›, rfl⟩
  · rintro ⟨k, target, time, expired, rfl⟩
    exact ⟨k, List.mem_finRange k, by simp only [expired]⟩

theorem Live.mem_faultedItems : x ∈ v.faultedItems ↔
    ∃ l time, (v.lineNotices.get l).faulted = some time ∧ x = ⟨.lineFaulted, l.val, true, .lineFaulted time⟩ := by
  simp only [Live.faultedItems, Live.lineNoticeItems, allLines, List.mem_filterMap, List.mem_finRange, true_and,
    Option.map_eq_some_iff, @eq_comm _ _ x]

theorem Live.mem_inheritedItems : x ∈ v.inheritedItems ↔
    ∃ l lost time, (v.lineNotices.get l).inherited = some (lost, time) ∧
      x = ⟨.lineInherited, l.val, true, .lineInherited lost time⟩ := by
  simp only [Live.inheritedItems, Live.lineNoticeItems, allLines, List.mem_filterMap, List.mem_finRange, true_and,
    Option.map_eq_some_iff, Prod.exists, @eq_comm _ _ x]

theorem Live.mem_termEndedItems : x ∈ v.termEndedItems ↔
    ∃ l time, (v.lineNotices.get l).termEnded = some time ∧ x = ⟨.termEnded, l.val, false, .termEnded time⟩ := by
  simp only [Live.termEndedItems, Live.lineNoticeItems, allLines, List.mem_filterMap, List.mem_finRange, true_and,
    Option.map_eq_some_iff, @eq_comm _ _ x]

theorem Live.mem_lossItems : x ∈ v.lossItems ↔
    ∃ n cause time, v.losses.get n = some (cause, time) ∧ x = ⟨.agentLost, n.val, false, .agentLost cause time⟩ := by
  simp only [Live.lossItems, List.mem_filterMap, List.mem_finRange, true_and, Option.map_eq_some_iff, Prod.exists,
    @eq_comm _ _ x]

theorem Live.mem_watchItems {urgent : Bool} : x ∈ v.watchItems urgent ↔
    ∃ id w e, v.watches.get id = some w ∧ w.pending = some e ∧ w.urgent = urgent ∧
      x = ⟨.watchEdge, id.val, w.urgent, .watchEdge w.line e.count e.stamp w.view.filtered⟩ := by
  refine List.mem_filterMap.trans ⟨fun ⟨id, _, item⟩ => ?_, ?_⟩
  · split at item
    · cases item
    · next w record =>
      obtain ⟨rfl, mapped⟩ := Option.ite_none_right_eq_some.mp item
      obtain ⟨e, pending, rfl⟩ := Option.map_eq_some_iff.mp mapped
      exact ⟨id, w, e, record, pending, rfl, rfl⟩
  · rintro ⟨id, w, e, record, pending, rfl, rfl⟩
    exact ⟨id, List.mem_finRange id, by simp only [record, if_true, pending, Option.map_some]⟩

/-- The watches of both urgencies together. -/
theorem Live.mem_watchItems_either : x ∈ v.watchItems true ∨ x ∈ v.watchItems false ↔
    ∃ id w e, v.watches.get id = some w ∧ w.pending = some e ∧
      x = ⟨.watchEdge, id.val, w.urgent, .watchEdge w.line e.count e.stamp w.view.filtered⟩ := by
  rw [Live.mem_watchItems, Live.mem_watchItems]
  constructor
  · rintro (⟨id, w, e, record, pending, -, shown⟩ | ⟨id, w, e, record, pending, -, shown⟩)
    · exact ⟨id, w, e, record, pending, shown⟩
    · exact ⟨id, w, e, record, pending, shown⟩
  · rintro ⟨id, w, e, record, pending, shown⟩
    cases urgency : w.urgent with
    | true => exact .inl ⟨id, w, e, record, pending, urgency, urgency ▸ shown⟩
    | false => exact .inr ⟨id, w, e, record, pending, urgency, urgency ▸ shown⟩

theorem Live.mem_pendingNotices : x ∈ v.pendingNotices ↔
    x ∈ v.seqHaltedItems ∨ x ∈ v.faultedItems ∨ x ∈ v.inheritedItems ∨
      (x ∈ v.watchItems true ∨ x ∈ v.watchItems false) ∨ x ∈ v.lossItems ∨ x ∈ v.grantedItems ∨ x ∈ v.expiredItems ∨
      x ∈ v.termEndedItems ∨ x ∈ v.seqFinishedItems := by
  simp only [Live.pendingNotices, Live.urgentNotices, Live.normalNotices, List.mem_append, or_assoc]

end

/-! ### NOTICES (R137) -/

theorem exec_notices (h : Header) (s : State) : exec (.notices h) s = execNotices h s := rfl

theorem decideNotices_of_live {s : State} {n : Port} {v : Live} (live : s.live n = some v) :
    decideNotices n s = .done s (Reply.of .ok (.notices v.pendingNotices.length
      (decide (20 < v.pendingNotices.length)) s.lineTime (v.pendingNotices.take 20))) := by
  rw [decideNotices, State.noticesOf, live, Option.map_some, Option.getD_some]

/-- Settles O42: the list is the session's pending notices, whose blocks follow one another by urgency and kind and hold
what each of the nine kinds has pending. -/
theorem noticesArePresentedInOrder : Obligations.NoticesArePresentedInOrder := by
  unfold Obligations.NoticesArePresentedInOrder
  refine fun h v s hears live => ⟨v.pendingNotices, ?_, v.pendingNotices_ordered, fun x => ?_⟩
  · rw [exec_notices, execNotices, State.serve_heard (body := fun _ => decideNotices h.port) hears
      (decideNotices_of_live live), State.heard_lineTime]
  · rw [Live.mem_pendingNotices, Live.mem_seqHaltedItems, Live.mem_faultedItems, Live.mem_inheritedItems,
      Live.mem_watchItems_either, Live.mem_lossItems, Live.mem_grantedItems, Live.mem_expiredItems,
      Live.mem_termEndedItems, Live.mem_seqFinishedItems]

end Sys2Proof.Machine

/-! PROOFS of the family of the step and the requests: a step is a command or the part's clock (O1 to O3), the state after
reset (O4), what taking and placing write (O7), and the common checks of every request (O5, O6). -/

namespace Sys2Proof.Machine

/-! ### The step, the queue and the clock (R128, R129) -/

/-- Settles O1: the step takes the front of the queue by its definition. -/
theorem stepTakesFrontCommand : Obligations.StepTakesFrontCommand := fun _ _ _ => rfl

theorem step_of_empty {s : State} (empty : s.pending = []) : step s = idle s := by
  rw [step, empty]

theorem State.nextDue_of_none {s : State} (due : s.due = []) : s.nextDue = none := by
  rw [State.nextDue, due]

theorem State.nextDue_of_one {s : State} {c : Instr} (due : s.due = [c]) : s.nextDue = some (c, s) := by
  rw [State.nextDue, due]

/-- R129, log 5: where several deadlines are due, the one chosen is one of them. -/
theorem State.nextDue_of_several {s : State} {c d : Instr} {cs : List Instr} (due : s.due = c :: d :: cs) :
    ∃ e ∈ s.due, s.nextDue = some (e, { s with choices := s.choices + 1 }) := by
  have inRange : Config.dueChoice s.choices % ((d :: cs).length + 1) < (c :: d :: cs).length :=
    Nat.mod_lt _ (Nat.succ_pos _)
  rw [State.nextDue, due]
  refine ⟨_, List.getElem_mem inRange, ?_⟩
  dsimp only
  rw [List.getElem?_eq_getElem inRange, Option.getD_some]

theorem idle_of_resetLow {s : State} (low : s.resetLow = true) : idle s = .next s := by
  rw [idle, if_pos low]

theorem idle_of_nextDue {s u : State} {c : Instr} (high : s.resetLow = false) (due : s.nextDue = some (c, u)) :
    idle s = exec c u := by
  simp [idle, high, due]

theorem idle_of_noneDue {s : State} (high : s.resetLow = false) (due : s.nextDue = none) : idle s = .next s.pass := by
  simp [idle, high, due]

/-- Settles O2: the three cases are those of the list of the deadlines that are due. -/
theorem emptyQueueStepIsTheClock : Obligations.EmptyQueueStepIsTheClock := by
  unfold Obligations.EmptyQueueStepIsTheClock
  intro s empty
  rw [step_of_empty empty]
  refine ⟨idle_of_resetLow, fun high => ⟨fun due => ?_, fun c due => ?_, fun c d cs due => ?_⟩⟩
  · exact ⟨s.pass, idle_of_noneDue high (State.nextDue_of_none due), rfl, State.line_pass s⟩
  · exact idle_of_nextDue high (State.nextDue_of_one due)
  · obtain ⟨e, listed, chosen⟩ := State.nextDue_of_several due
    exact ⟨e, listed, idle_of_nextDue high chosen⟩

/-- Log 6: no arm of the dispatch answers a fault or a refusal. -/
theorem exec_answersNext (s : State) (i : Instr) : ∃ t, exec i s = .next t := by
  cases i <;> exact ⟨_, rfl⟩

theorem step_answersNext (s : State) : ∃ t, step s = .next t := by
  unfold step
  split
  · exact exec_answersNext _ _
  · unfold idle
    split_ifs
    · exact ⟨s, rfl⟩
    · split
      · exact ⟨_, rfl⟩
      · exact exec_answersNext _ _

/-- Settles O3: every step is a command's meaning or a microsecond, and each of them answers a next state. -/
theorem everyStepAnswersNext : Obligations.EveryStepAnswersNext := by
  intro s
  obtain ⟨t, next⟩ := step_answersNext s
  rw [StepSafe, next]
  trivial

/-! ### The state after reset (R45, R49, R90, R128, R151, R168) -/

section
variable (l : LineId) (n : Port)

theorem State.line_reset : State.reset.line l = resetLine false := Table.get_replicate _ l

theorem State.ruleAt_reset (k : RuleSlot) : State.reset.ruleAt k = .empty := Table.get_replicate _ k

theorem State.session_reset : State.reset.session n = resetSession := Table.get_replicate _ n

theorem State.live_reset : State.reset.live n = none := congrArg Session.live (State.session_reset n)

theorem State.run_reset (k : SlotId) : State.reset.run k = none := Table.get_replicate _ k

theorem State.port_reset : State.reset.port n = resetPort := Table.get_replicate _ n

theorem State.isOpen_reset : State.reset.isOpen n = false := by rw [State.isOpen, State.live_reset, Option.isSome_none]

/-- A line record at reset stands in the relations of R23 and R24. -/
theorem resetLine_coherent (level : Level) : (resetLine level).Coherent := by
  simp [Line.Coherent, resetLine]

end

theorem State.coherent_reset : State.reset.Coherent := by
  refine ⟨fun l => ?_, ⟨fun l k bound => ?_, fun k r run => ?_⟩, fun _ => rfl, fun _ => ⟨fun l => ?_, State.run_reset⟩⟩
  · rw [State.line_reset]
    exact resetLine_coherent false
  · rw [State.line_reset] at bound
    cases bound
  · rw [State.run_reset] at run
    cases run
  · rw [State.line_reset]
    rfl

theorem State.holdersOpen_reset : State.reset.HoldersOpen := by
  refine ⟨fun l n held => ?_, nofun⟩
  rw [State.line_reset] at held
  cases held

theorem State.startFloating_reset : State.reset.StartFloating := fun _ _ _ l => congrArg Line.drive (State.line_reset l)

theorem State.rulesHold_reset : State.reset.RulesHold := fun k => by
  rw [State.ruleAt_reset]
  rfl

theorem State.attentionSound_reset : State.reset.AttentionSound := fun n => by
  rw [State.attentionDue, State.live_reset]
  exact Table.get_replicate _ n

theorem State.wakesSound_reset : State.reset.WakesSound :=
  ⟨fun n _ => State.isOpen_reset n, nofun, fun _ => rfl, fun _ => State.isOpen_reset⟩

theorem State.flashSound_reset : State.reset.FlashSound := ⟨rfl, nofun, nofun⟩

theorem State.portsSound_reset : State.reset.PortsSound := fun n inProcess => by
  rw [State.port_reset] at inProcess
  cases inProcess

/-- Settles O4: each table of the state after reset holds its reset record in every place, and the laws are read off. -/
theorem resetHoldsTheStatedValuesAndLaws : Obligations.ResetHoldsTheStatedValuesAndLaws := by
  unfold Obligations.ResetHoldsTheStatedValuesAndLaws
  refine ⟨⟨rfl, rfl, rfl, fun l => ⟨false, State.line_reset l⟩, State.ruleAt_reset, fun g => ?_, State.session_reset,
    fun q => ?_, State.run_reset, fun n => ?_, fun n => ?_, State.port_reset, rfl⟩, ?_⟩
  · exact Table.get_replicate _ g
  · exact Table.get_replicate _ q
  · exact Table.get_replicate _ n
  · exact Table.get_replicate _ n
  · exact ⟨State.coherent_reset, State.holdersOpen_reset, State.startFloating_reset, State.rulesHold_reset,
      State.attentionSound_reset, State.wakesSound_reset, State.flashSound_reset, State.portsSound_reset⟩

/-! ### What taking, ignoring, placing and a keepalive write (R93, R172 to R174) -/

/-- Settles O7: each of the four is the write of one record, and a table read after a write is `Table.get_set`. -/
theorem takingPlacingAndKeepaliveWriteOneRecord : Obligations.TakingPlacingAndKeepaliveWriteOneRecord :=
  fun s _ _ _ _ => ⟨rfl, rfl, rfl, rfl, State.port_setPort s, State.session_setSession s, fun _ _ _ => ⟨rfl, rfl⟩⟩

/-! ### Every request is its common checks and then its block's decision (R180) -/

/-- Each request is a frame served by the checks that the table of its requests gives, with some arguments and some
decision of its block. -/
theorem exec_request {i : Instr} {c : Checks} (s : State) (request : requestChecks i = some c) :
    ∃ (α : Type) (args : Option α) (body : α → State → Verdict), args.isSome = c.inRange ∧
      exec i s = .next ((s.sensedBy i).serve c.header c.length (checked c.header c.service c.rule c.right args body)) := by
  cases i <;> cases request <;> exact ⟨_, _, _, rfl, rfl⟩

section
variable (s : State) (i : Instr)

@[simp] theorem State.sensedBy_ports : (s.sensedBy i).ports = s.ports := by cases i <;> rfl

@[simp] theorem State.sensedBy_sessions : (s.sensedBy i).sessions = s.sessions := by cases i <;> rfl

@[simp] theorem State.sensedBy_loader : (s.sensedBy i).loader = s.loader := by cases i <;> rfl

@[simp] theorem State.sensedBy_resetLow : (s.sensedBy i).resetLow = s.resetLow := by cases i <;> rfl

theorem State.port_sensedBy (n : Port) : (s.sensedBy i).port n = s.port n := by
  rw [State.port, State.sensedBy_ports, State.port]

theorem State.session_sensedBy (n : Port) : (s.sensedBy i).session n = s.session n := by
  rw [State.session, State.sensedBy_sessions, State.session]

theorem State.accepts_sensedBy (n : Port) : (s.sensedBy i).accepts n = s.accepts n := by
  rw [State.accepts, State.port_sensedBy, State.sensedBy_resetLow, State.accepts]

theorem State.Listens.sensedBy {s : State} {n : Port} (listens : s.Listens n) (i : Instr) :
    (s.sensedBy i).Listens n := by
  rw [State.Listens, State.port_sensedBy, State.sensedBy_resetLow]
  exact listens

/-- OPEN's command writes what none of the checks reads. -/
theorem State.refusal_sensedBy (c : Checks) : c.refusal (s.sensedBy i) = c.refusal s := by cases i <;> rfl

end

/-! ### The first check that fails (R180, steps 3 to 7) -/

/-- R180, steps 6 and 7: the right is looked at before the arguments. -/
theorem authorise_refused {α : Type} {h : Header} {right : Right} {args : Option α} {s : State} {o : ReqOutcome}
    (body : α → State → Verdict)
    (refused : ((s.session h.port).has right = false ∧ o = .noRight) ∨
      ((s.session h.port).has right = true ∧ args.isSome = false ∧ o = .badArgument)) :
    authorise h right args body s = .done s (Reply.bare o) := by
  obtain ⟨noRight, rfl⟩ | ⟨hasRight, outOfRange, rfl⟩ := refused
  · exact authorise_noRight args body noRight
  · rw [Option.isSome_eq_false_iff, Option.isNone_iff_eq_none] at outOfRange
    rw [outOfRange, authorise_badArgument body hasRight]

/-- R93: the state in which the rights and arguments of a request are looked at. -/
def Checks.passed (c : Checks) (s : State) : State := if c.keeps s then s.keepalive c.header.port else s

/-- A request past the part state, session and tag checks goes on to its right and arguments. -/
theorem checked_authorise {α : Type} {c : Checks} {s : State} {args : Option α} (body : α → State → Verdict)
    (served : c.service.refusal s.partState = none)
    (session : c.rule = .required → s.isOpen c.header.port = true ∧ c.header.tag = s.tag c.header.port) :
    checked c.header c.service c.rule c.right args body s = authorise c.header c.right args body (c.passed s) := by
  unfold Checks.passed Checks.keeps
  cases rule : c.rule with
  | exempt => exact checked_exempt _ args body served
  | exemptKeepalive => simp only [checked_exemptKeepalive _ args body served, Bool.and_eq_true, decide_eq_true_eq]
  | required =>
    obtain ⟨isOpen, tag⟩ := session rule
    exact checked_required _ args body served isOpen tag

theorem Checks.passed_has (c : Checks) (s : State) (right : Right) :
    ((c.passed s).session c.header.port).has right = (s.session c.header.port).has right := by
  unfold Checks.passed
  split_ifs
  · exact State.keepalive_has s _ _ right
  · rfl

/-- R180: the common checks answer the refusal that the table of the checks gives. -/
theorem checked_refused {α : Type} {c : Checks} {s : State} {args : Option α} {o : ReqOutcome} {keep : Bool}
    (body : α → State → Verdict) (inRange : args.isSome = c.inRange) (refused : c.refusal s = some (o, keep)) :
    checked c.header c.service c.rule c.right args body s =
      .done (if keep then s.keepalive c.header.port else s) (Reply.bare o) := by
  unfold Checks.refusal at refused
  cases served : c.service.refusal s.partState with
  | some _ =>
    simp only [served, Option.some.injEq, Prod.mk.injEq] at refused
    obtain ⟨rfl, rfl⟩ := refused
    exact checked_refusedState _ _ args body served
  | none =>
    simp only [served] at refused
    split_ifs at refused with closed stale noRight outOfRange
    · obtain ⟨rfl, rfl⟩ := refused
      rw [closed.1]
      exact checked_noSession _ args body served closed.2
    · obtain ⟨rfl, rfl⟩ := refused
      have isOpen : s.isOpen c.header.port = true := by simpa [stale.1] using closed
      rw [stale.1]
      exact checked_staleSession _ args body served isOpen stale.2
    · obtain ⟨rfl, rfl⟩ := refused
      rw [checked_authorise body served fun required => by simpa [required] using And.intro closed stale]
      exact authorise_refused body (.inl ⟨(c.passed_has s _).trans noRight, rfl⟩)
    · obtain ⟨rfl, rfl⟩ := refused
      have hasRight : (s.session c.header.port).has c.right = true := by simpa using noRight
      rw [checked_authorise body served fun required => by simpa [required] using And.intro closed stale]
      exact authorise_refused body (.inr ⟨(c.passed_has s _).trans hasRight, inRange.trans outOfRange, rfl⟩)

theorem State.refusal_taken (s : State) (c : Checks) (h : Header) (k : Nat) : c.refusal (s.taken h k) = c.refusal s := rfl

/-- Settles O5: the request is its checks, which see in the taken state what they saw before it. -/
theorem firstFailingCheckGivesTheOutcome : Obligations.FirstFailingCheckGivesTheOutcome := by
  unfold Obligations.FirstFailingCheckGivesTheOutcome
  intro i c s o keep request listens refused
  obtain ⟨α, args, body, inRange, run⟩ := exec_request s request
  rw [← State.refusal_sensedBy s i, ← State.refusal_taken _ c c.header c.length] at refused
  rw [run, State.serve_done (listens.sensedBy i) (checked_refused body inRange refused), State.answered, State.answered,
    State.port_sensedBy]
  cases keep <;> rfl

/-- Settles O6: a frame is ignored, or reaches nothing, by `serve` alone. -/
theorem requestIsIgnoredWhileOneIsInProcess : Obligations.RequestIsIgnoredWhileOneIsInProcess := by
  unfold Obligations.RequestIsIgnoredWhileOneIsInProcess
  intro i c s request
  obtain ⟨α, args, body, -, run⟩ := exec_request s request
  rw [run]
  refine ⟨fun ⟨high, idle, inProcess⟩ => ?_, fun shut => ?_⟩
  · have accepts : (s.sensedBy i).accepts c.header.port = true := by
      rw [State.accepts_sensedBy]
      simp [State.accepts, high, idle]
    rw [State.serve_inProcess _ _ accepts (by rwa [State.inProcess, State.port_sensedBy])]
  · have refuses : (s.sensedBy i).accepts c.header.port = false := by
      rw [State.accepts_sensedBy, State.accepts]
      obtain low | inTransaction := shut
      · simp [low]
      · simp [inTransaction]
    rw [State.serve_notAccepted _ _ refuses]

end Sys2Proof.Machine

/-! PROOFS of the family of the agent ports: broken frames and ignored transactions (O8), collects (O9), TICK, STATUS and
IDENTIFY (O14), and the requests and events that open and end sessions (O12, O13, O17). -/

namespace Sys2Proof.Machine

/-! ### Two writes of one port's record -/

theorem Table.set_set {α : Type} {n : Nat} (t : Vector α n) (i : Fin n) (x y : α) : (t.set i x).set i y = t.set i y :=
  Table.ext fun j => by
    simp only [Table.get_set]
    split_ifs <;> rfl

theorem Table.set_self {α : Type} {n : Nat} (t : Vector α n) (i : Fin n) : t.set i (t.get i) = t :=
  Table.ext fun j => by
    rw [Table.get_set]
    split_ifs with same
    · rw [same]
    · rfl

theorem State.setPort_setPort (s : State) (n : Port) (p q : PortRecord) :
    (s.setPort n p).setPort n q = s.setPort n q := by
  simp only [State.setPort, Table.set_set]

theorem State.modifyPort_modifyPort (s : State) (n : Port) (f g : PortRecord → PortRecord) :
    (s.modifyPort n f).modifyPort n g = s.modifyPort n fun p => g (f p) := by
  rw [State.modifyPort, State.port_modifyPort, if_pos rfl, State.modifyPort, State.setPort_setPort, State.modifyPort]

/-! ### Broken frames and ignored transactions (R169, R171 to R174, R176, R180) -/

section
variable {s : State} {n : Port}

theorem State.Listens.accepts (listens : s.Listens n) : s.accepts n = true := by
  obtain ⟨high, idle, -⟩ := listens
  simp [State.accepts, high, idle]

theorem State.Listens.notInProcess (listens : s.Listens n) : s.inProcess n = false := by
  obtain ⟨-, -, free⟩ := listens
  rw [State.inProcess, free, Option.isSome_none]

/-- R172, R174, R180: a broken frame is taken, answered and ended in one record. -/
theorem State.refuseFrame_eq (s : State) (n : Port) (seq : Option Byte) (cause : FrameFault) (received : Nat) :
    s.refuseFrame n seq cause received = s.setPort n { s.port n with
      decoder := (brokenEnd cause received).1
      received := (brokenEnd cause received).2
      response := some { seq := seq.getD 0, reply := Reply.of .badFrame (.frameFault cause), ignored := false,
                         discarded := (s.port n).response.isSome } } := by
  rw [State.refuseFrame, State.setDecoder, State.place, State.takeFrame, State.modifyPort_modifyPort,
    State.modifyPort_modifyPort]
  rfl

theorem brokenEnd_eq (cause : FrameFault) (received : Nat) :
    brokenEnd cause received = (if cause = .crc then .request else .idle, if cause = .crc then received else 0) := by
  cases cause <;> rfl

theorem exec_badFrame_listens (listens : s.Listens n) (seq : Option Byte) (cause : FrameFault) (received : Nat) :
    exec (.badFrame n seq cause received) s = .next (s.refuseFrame n seq cause received) := by
  simp [exec, execBadFrame, listens.accepts, listens.notInProcess]

theorem exec_badRequest_listens {h : Header} (listens : s.Listens h.port) (cause : RequestFault) (length : Byte) :
    exec (.badRequest h cause length) s =
      .next ((s.taken h length.toNat).answered s h (Reply.of .badRequest (.requestFault cause))) :=
  congrArg Host.Outcome.next (State.serve_done listens rfl)

theorem State.accepts_of_idle (high : s.resetLow = false) (idle : (s.port n).decoder = .idle) : s.accepts n = true := by
  simp [State.accepts, high, idle]

theorem exec_requestIgnored_inProcess {q : InProcess} (accepts : s.accepts n = true) (request : (s.port n).request = some q) :
    exec (.requestIgnored n) s = .next (s.setPort n
      { s.port n with decoder := .skip, received := 1, request := some { q with ignored := true } }) := by
  have inProcess : s.inProcess n = true := by rw [State.inProcess, request, Option.isSome_some]
  have ignored : s.ignoreFrame n = s.setPort n
      { s.port n with decoder := .skip, received := 1, request := some { q with ignored := true } } := by
    rw [State.ignoreFrame, State.modifyPort, request, Option.map_some]
  simp [exec, execRequestIgnored, accepts, inProcess, ignored]

theorem exec_ignoredTransaction_accepts (accepts : s.accepts n = true) :
    exec (.ignoredTransaction n) s = .next (s.setPort n { s.port n with decoder := .skip, received := 1 }) := by
  simp [exec, execIgnoredTransaction, accepts, State.setDecoder, State.modifyPort]

theorem exec_selectRelease_high (high : s.resetLow = false) :
    exec (.selectRelease n) s =
      .next (s.setPort n { s.port n with decoder := .idle, received := 0, shifting := none }) := by
  simp [exec, execSelectRelease, high, PortRecord.deselect, State.modifyPort]

end

/-- Settles O8: each of the five events is the write of one port's record. -/
theorem brokenAndIgnoredTransactions : Obligations.BrokenAndIgnoredTransactions := by
  unfold Obligations.BrokenAndIgnoredTransactions
  refine ⟨⟨fun n seq cause received s listens => ?_, fun h cause length s listens => ?_⟩, fun n s high =>
    ⟨fun q idle request => ?_, fun idle => ?_, exec_selectRelease_high high⟩⟩
  · rw [exec_badFrame_listens listens, State.refuseFrame_eq, brokenEnd_eq]
  · exact exec_badRequest_listens listens cause length
  · exact exec_requestIgnored_inProcess (State.accepts_of_idle high idle) request
  · exact exec_ignoredTransaction_accepts (State.accepts_of_idle high idle)

/-! ### Collects (R175, R176) -/

section
variable {s : State} {n : Port}

/-- R175: a collect fixes the frame that the port's state gives. -/
theorem exec_collect_accepts {f : CollectFrame} (accepts : s.accepts n = true)
    (fixed : (s.port n).collectFrame (s.attention.get n) = f) :
    exec (.collect n) s =
      .next (s.setPort n { s.port n with decoder := .collect, received := 1, shifting := some f }) := by
  simp [exec, execCollect, accepts, State.collect, State.modifyPort, fixed]

variable {p : PortRecord} {attention : Bool}

theorem PortRecord.collectFrame_response {r : Response} (response : p.response = some r) :
    p.collectFrame attention = .response r attention := by
  rw [PortRecord.collectFrame, response]

theorem PortRecord.collectFrame_notReady {q : InProcess} (response : p.response = none) (request : p.request = some q) :
    p.collectFrame attention = .notReady q.seq attention := by
  rw [PortRecord.collectFrame, response, request]

theorem PortRecord.collectFrame_none (response : p.response = none) (request : p.request = none) :
    p.collectFrame attention = .none p.lastSeq attention := by
  rw [PortRecord.collectFrame, response, request]

theorem flagsByte_attention (attention : Bool) : flagsByte false false attention = if attention then 4 else 0 := by
  cases attention <;> rfl

/-- R176: only a collect that shifts out a response has one leaving. -/
theorem PortRecord.leaving_eq_some_iff {r : Response} :
    p.leaving = some r ↔ p.decoder = .collect ∧ ∃ attention, p.shifting = some (.response r attention) := by
  unfold PortRecord.leaving
  split
  · next collecting shifting => simp [collecting, shifting]
  · next notLeaving =>
    refine iff_of_false (by simp) ?_
    rintro ⟨collecting, attention, shifting⟩
    exact notLeaving r attention collecting shifting

theorem exec_responseConsumed_leaving {r : Response} (leaving : (s.port n).leaving = some r) :
    exec (.responseConsumed n) s = .next (s.setPort n
      { s.port n with response := none, shifting := none, received := 8 + r.reply.payload.bytes.length }) := by
  simp [exec, execResponseConsumed, leaving, PortRecord.consume, State.modifyPort]

theorem exec_responseConsumed_other (other : (s.port n).leaving = none) :
    exec (.responseConsumed n) s = .next s := by
  simp [exec, execResponseConsumed, other]

end

/-- Settles O9: the frame that a collect fixes is read off the response and the request slot in turn. -/
theorem collectFixesAndConsumesTheFrame : Obligations.CollectFixesAndConsumesTheFrame := by
  unfold Obligations.CollectFixesAndConsumesTheFrame
  refine ⟨fun n s high idle => ?_, fun n s => ⟨fun r attention collecting shifting => ?_, fun other => ?_⟩⟩
  · have accepts := State.accepts_of_idle high idle
    refine ⟨fun r response => ?_, fun q response request => ⟨?_, ?_⟩, fun response request => ⟨?_, ?_⟩⟩
    · exact exec_collect_accepts accepts (PortRecord.collectFrame_response response)
    · exact exec_collect_accepts accepts (PortRecord.collectFrame_notReady response request)
    · rw [CollectFrame.bytes, flagsByte_attention]
    · exact exec_collect_accepts accepts (PortRecord.collectFrame_none response request)
    · rw [CollectFrame.bytes, flagsByte_attention]
  · exact exec_responseConsumed_leaving (PortRecord.leaving_eq_some_iff.mpr ⟨collecting, attention, shifting⟩)
  · refine exec_responseConsumed_other (Option.eq_none_iff_forall_not_mem.mpr fun r leaving => ?_)
    obtain ⟨collecting, attention, shifting⟩ := PortRecord.leaving_eq_some_iff.mp leaving
    exact other.elim (fun notResponse => notResponse r attention shifting) fun notCollecting => notCollecting collecting

/-! ### TICK, STATUS and IDENTIFY (R101, R166, R167) -/

section
variable {s : State} {h : Header}

theorem exec_tick_heard {v : Live} (hears : s.Hears h .exceptStarting .none) (live : s.live h.port = some v) :
    exec (.tick h) s = .next ((s.heard h 0).answered s h (Reply.of .ok (.ticked s.lineTime v.misses))) := by
  have misses : s.misses h.port = v.misses := by rw [State.misses, live, Option.map_some, Option.getD_some]
  refine congrArg Host.Outcome.next (State.serve_heard hears ?_)
  rw [misses]

/-- R92: a request that is exempt of the session check and a keepalive where its tag matches is decided in the state that
this leaves. -/
theorem State.serve_exemptKeepalive {body : Unit → State → Verdict} {u : State} {r : Reply} (listens : s.Listens h.port)
    (passed : (if s.isOpen h.port = true ∧ h.tag = s.tag h.port then s.heard h 0 else s.taken h 0) = u)
    (decided : body () u = .done u r) :
    s.serve h 0 (checked h .always .exemptKeepalive .none (some ()) body) = u.answered s h r := by
  refine State.serve_done listens ?_
  rw [checked_exemptKeepalive (s := s.taken h 0) _ _ body rfl]
  simp only [State.taken_isOpen, State.taken_tag]
  subst passed
  exact (authorise_body () body rfl).trans decided

end

/-- Settles O14: a keepalive changes nothing that TICK, STATUS and IDENTIFY report, but for the session's own record. -/
theorem tickStatusAndIdentifyReport : Obligations.TickStatusAndIdentifyReport := by
  unfold Obligations.TickStatusAndIdentifyReport
  refine ⟨fun h s hears v live => exec_tick_heard hears live, fun h s listens => ?_⟩
  intro u
  have session : (u.session h.port).epoch = (s.session h.port).epoch ∧
      (u.session h.port).lastEnd = (s.session h.port).lastEnd := by
    simp only [u]
    split_ifs
    · rw [State.heard, State.keepalive, State.session_modifyLive, if_pos rfl]
      exact ⟨rfl, rfl⟩
    · exact ⟨rfl, rfl⟩
  have lines : u.lines = s.lines ∧ u.loader = s.loader ∧ u.lineTime = s.lineTime := by
    simp only [u]
    split_ifs <;> exact ⟨rfl, rfl, rfl⟩
  obtain ⟨epoch, lastEnd⟩ := session
  obtain ⟨lines, loader, lineTime⟩ := lines
  constructor
  · refine congrArg Host.Outcome.next (State.serve_exemptKeepalive listens rfl ?_)
    simp only [decideStatus, State.report, State.ownSession, State.faultedLines, State.line, loader, lineTime, lines,
      u, epoch, lastEnd]
    rfl
  · refine congrArg Host.Outcome.next (State.serve_exemptKeepalive listens rfl ?_)
    rw [decideIdentify]
    simp only [u, lineTime]

/-! ### OPEN, CLOSE and the fall of presence (R97 to R100, R103, R178) -/

/-- The laws of the line records read nothing of sessions, ports and presence inputs. -/
theorem State.Coherent.congr {s t : State} (coherent : s.Coherent) (lines : t.lines = s.lines) (slots : t.slots = s.slots)
    (store : t.store = s.store) (part : t.partState = s.partState) (load : t.loader.load = s.loader.load) :
    t.Coherent := by
  have line : t.line = s.line := by funext l; rw [State.line, lines, State.line]
  have run : t.run = s.run := by funext k; rw [State.run, slots, State.run]
  have lineSet : t.lineSet = s.lineSet := by
    funext q
    simp only [State.lineSet, State.steps, State.sequence, store]
  unfold State.Coherent State.BindingsSound State.StartingSound
  rw [line, run, lineSet, part, load]
  exact coherent

section
variable {s : State} {h : Header} {n : Port}

theorem exec_closeSession_heard (hears : s.Hears h .exceptStarting .none) :
    exec (.closeSession h) s = .next (((s.heard h 0).endSession h.port .closed).answered s h
      (Reply.of .ok (.closed (s.session h.port).epoch))) := by
  refine congrArg Host.Outcome.next (State.serve_heard hears ?_)
  have epoch : ((s.heard h 0).session h.port).epoch = (s.session h.port).epoch := by
    rw [State.heard, State.keepalive, State.session_modifyLive, if_pos rfl]
    rfl
  rw [decideClose, epoch]

theorem Service.exceptStarting_refusal {p : PartState} (started : p ≠ .starting) :
    Service.exceptStarting.refusal p = none := by
  cases p with
  | starting => exact absurd rfl started
  | ready => rfl
  | degraded => rfl

/-- An OPEN that is served and in range is answered as its block decides in the state that senses the presence input. -/
theorem exec_openSession_listens {period : BitVec 16} {limit mask : Byte} {level : Level} {a : OpenArgs} {t : State}
    {r : Reply} (listens : s.Listens h.port) (started : s.partState ≠ .starting)
    (args : openArgs period limit mask = some a)
    (decided : decideOpen h.port a ((s.sense h.port level).taken h 4) = .done t r) :
    exec (.openSession h period limit mask level) s = .next (t.answered s h r) := by
  refine congrArg Host.Outcome.next ((State.serve_done (s := s.sense h.port level) listens ?_).trans rfl)
  rw [checked_exempt (s := (s.sense h.port level).taken h 4) _ _ _ (Service.exceptStarting_refusal started), args]
  exact (authorise_body a _ rfl).trans decided

theorem State.presence_sensed {level : Level} {k : Nat} : ((s.sense n level).taken h k).presence.get n = level :=
  (Table.get_set s.presence n n level).trans (if_pos rfl)

theorem State.not_absent_of_sensed {level : Level} {k : Nat} (present : (s.session n).presenceUsed = false ∨ level = true) :
    ¬ ((((s.sense n level).taken h k).session n).presenceUsed = true ∧
        ((s.sense n level).taken h k).presence.get n = false) := by
  rw [State.presence_sensed]
  rintro ⟨used, low⟩
  exact present.elim (fun unused => Bool.false_ne_true (unused.symm.trans used))
    fun high => Bool.false_ne_true (low.symm.trans high)

theorem decideOpen_absent (a : OpenArgs) (absent : (s.session n).presenceUsed = true ∧ s.presence.get n = false) :
    decideOpen n a s = .done s (Reply.bare .absent) := by
  rw [decideOpen, if_pos absent]

theorem decideOpen_present (a : OpenArgs) (present : ¬ ((s.session n).presenceUsed = true ∧ s.presence.get n = false)) :
    decideOpen n a s = .done ((s.endSession n .reopened).openRecord n a.period a.limit a.mask)
      ((s.endSession n .reopened).openReply n) := by
  rw [decideOpen, if_neg present]

theorem State.endSession_of_closed (closed : s.isOpen n = false) (cause : EndCause) : s.endSession n cause = s := by
  rw [State.endSession, closed]
  rfl

/-- R98: what an OPEN writes. -/
theorem State.openRecord_eq (s : State) (n : Port) (period limit : Nat) (mask : AttentionMask) :
    s.openRecord n period limit mask = { s with
      sessions := s.sessions.set n { s.session n with
        epoch := nextEpoch (s.session n).epoch, live := some (Live.fresh period (s.afterMs period) limit mask) }
      wakeOut := s.wakeOut.set n false
      wakeWatches := s.wakeWatches.map fun w => if w.target = n then { w with view := none } else w
      attention := s.attention.set n (Live.fresh period (s.afterMs period) limit mask).alerts } := by
  have due : (((s.setSession n { s.session n with
      epoch := nextEpoch (s.session n).epoch, live := some (Live.fresh period (s.afterMs period) limit mask) }).setWakeOut n
        false).deactivateWakes n).attentionDue n = (Live.fresh period (s.afterMs period) limit mask).alerts := by
    rw [State.attentionDue]
    have live : (((s.setSession n { s.session n with
        epoch := nextEpoch (s.session n).epoch,
        live := some (Live.fresh period (s.afterMs period) limit mask) }).setWakeOut n false).deactivateWakes n).live n =
          some (Live.fresh period (s.afterMs period) limit mask) := by
      refine Eq.trans (congrArg Session.live (State.session_setSession s n n _)) ?_
      rw [if_pos rfl]
    rw [live]
  rw [State.openRecord, State.reattend, due]
  rfl

/-- R98, R142: a session that has just been opened has nothing to alert of. -/
theorem Live.alerts_fresh (period : Nat) (deadline : LineTime) (limit : Nat) (mask : AttentionMask) :
    (Live.fresh period deadline limit mask).alerts = false := by
  have noNotice : (Live.fresh period deadline limit mask).pendingNotices = [] := by
    rw [List.eq_nil_iff_forall_not_mem]
    intro x
    simp [Live.mem_pendingNotices, Live.mem_watchItems_either, Live.mem_seqHaltedItems, Live.mem_faultedItems,
      Live.mem_inheritedItems, Live.mem_lossItems, Live.mem_grantedItems, Live.mem_expiredItems, Live.mem_termEndedItems,
      Live.mem_seqFinishedItems, Live.fresh, LineNotices.empty]
  have noUrgent : (Live.fresh period deadline limit mask).urgentNotices = [] := (List.append_eq_nil_iff.mp noNotice).1
  unfold Live.alerts
  rw [noNotice, noUrgent]
  cases (Live.fresh period deadline limit mask).mask <;> rfl

theorem State.Coherent.sensed_taken (coherent : s.Coherent) (level : Level) (k : Nat) :
    ((s.sense n level).taken h k).Coherent := coherent.congr rfl rfl rfl rfl rfl

end

/-- Settles O12: an OPEN of a closed port is `openRecord`; of an open one, `openRecord` on the state that the end of the
session leaves. -/
theorem openOpensOrReopens : Obligations.OpenOpensOrReopens := by
  unfold Obligations.OpenOpensOrReopens
  refine ⟨fun h period limit mask level a s listens started args => ?_,
    fun h period limit mask level a s listens started args isOpen present coherent => ?_⟩
  all_goals intro n u epoch
  · refine ⟨fun absent => ?_, fun present closed => ?_⟩
    · exact exec_openSession_listens listens started args (decideOpen_absent a ⟨absent.1, State.presence_sensed.trans absent.2⟩)
    · have notAbsent := State.not_absent_of_sensed (h := h) (k := 4) present
      have decided := decideOpen_present a notAbsent
      rw [State.endSession_of_closed (s := u) closed, State.openRecord_eq, Live.alerts_fresh] at decided
      exact exec_openSession_listens listens started args decided
  · have notAbsent := State.not_absent_of_sensed (h := h) (k := 4) present
    have ended : SessionEnded u (u.endSession n .reopened) n .reopened :=
      State.sessionEnded_endSession (s := u) isOpen (coherent.sensed_taken level 4) .reopened
    refine ⟨_, ended, ?_⟩
    have decided := decideOpen_present a notAbsent
    rw [State.openReply, ended.1] at decided
    exact exec_openSession_listens listens started args decided

/-- Settles O13: CLOSE is the end of the session in the state heard. -/
theorem closeEndsTheSession : Obligations.CloseEndsTheSession := by
  unfold Obligations.CloseEndsTheSession
  intro h s hears coherent
  have isOpen : (s.heard h 0).isOpen h.port = true := by
    rw [State.heard, State.keepalive_isOpen]
    exact hears.2.2.1
  have heard : (s.heard h 0).Coherent := coherent.congr rfl rfl rfl rfl rfl
  exact ⟨_, State.sessionEnded_endSession isOpen heard .closed, exec_closeSession_heard hears⟩

section
variable {s : State} {n : Port} {midFrame : Bool}

theorem exec_presenceFall_low (low : s.resetLow = true) :
    exec (.presenceFall n midFrame) s = .next (s.sense n false) := by
  simp [exec, execPresenceFall, low]

theorem exec_presenceFall_high (high : s.resetLow = false) :
    exec (.presenceFall n midFrame) s = .next ((s.sense n false).losePresence n midFrame) := by
  simp [exec, execPresenceFall, high]

theorem State.losePresence_unused (unused : (s.session n).presenceUsed = false) : s.losePresence n midFrame = s := by
  simp [State.losePresence, unused]

theorem State.losePresence_starting (starting : s.partState = .starting) : s.losePresence n midFrame = s := by
  unfold State.losePresence
  rw [starting]
  exact ite_self s

theorem State.losePresence_ready (used : (s.session n).presenceUsed = true) (ready : s.partState = .ready) :
    s.losePresence n midFrame = (s.modifyPort n fun p => p.cleared midFrame).endSession n .presence := by
  rw [State.losePresence, if_pos used, ready]

theorem State.losePresence_degraded (used : (s.session n).presenceUsed = true) (degraded : s.partState = .degraded) :
    s.losePresence n midFrame = s.endSession n .presence := by
  rw [State.losePresence, if_pos used, degraded]

/-- R103, R155: a fall that nothing is to act on. -/
theorem State.losePresence_idle (idle : (s.session n).presenceUsed = false ∨ s.partState = .starting ∨
    (s.partState = .degraded ∧ s.isOpen n = false)) : s.losePresence n midFrame = s := by
  obtain unused | starting | ⟨degraded, closed⟩ := idle
  · exact State.losePresence_unused unused
  · exact State.losePresence_starting starting
  · by_cases used : (s.session n).presenceUsed = true
    · rw [State.losePresence_degraded used degraded, State.endSession_of_closed closed]
    · exact State.losePresence_unused (Bool.eq_false_iff.mpr used)

end

/-- Settles O17: the cases of `losePresence`; where it ends a session, that end is `SessionEnded`. -/
theorem presenceFallClearsThePort : Obligations.PresenceFallClearsThePort := by
  unfold Obligations.PresenceFallClearsThePort
  intro n midFrame s u cleared
  have coherent_u : s.Coherent → u.Coherent := fun coherent => coherent.congr rfl rfl rfl rfl rfl
  have coherent_cleared : s.Coherent → cleared.Coherent := fun coherent => coherent.congr rfl rfl rfl rfl rfl
  refine ⟨exec_presenceFall_low, fun idle => ?_, fun high used ready closed => ?_, fun high used ready isOpen coherent => ?_,
    fun high used degraded isOpen coherent => ?_⟩
  · cases low : s.resetLow with
    | true => exact exec_presenceFall_low low
    | false => rw [exec_presenceFall_high low, State.losePresence_idle (s := s.sense n false) idle]
  · rw [exec_presenceFall_high high, State.losePresence_ready (s := s.sense n false) used ready]
    exact congrArg Host.Outcome.next (State.endSession_of_closed (s := cleared) closed _)
  · refine ⟨_, State.sessionEnded_endSession (s := cleared) isOpen (coherent_cleared coherent) .presence, ?_⟩
    rw [exec_presenceFall_high high, State.losePresence_ready (s := s.sense n false) used ready]
    rfl
  · refine ⟨_, State.sessionEnded_endSession (s := u) isOpen (coherent_u coherent) .presence, ?_⟩
    rw [exec_presenceFall_high high, State.losePresence_degraded (s := s.sense n false) used degraded]

end Sys2Proof.Machine

/-! PROOFS: the layer of the operations on lines that the proofs after it use: what each operation writes into its own
line, in the words of the statements, what it leaves of the interlock table, and the same for an operation over a list of
lines and for several drives put to admission in order (R4 to R6, R27, R32, R48, R53, R54). -/

namespace Sys2Proof.Machine

/-! ### What one operation writes into its line -/

section
variable (s : State) (l : LineId)

theorem State.line_modifyLine_self (f : Line → Line) : (s.modifyLine l f).line l = f (s.line l) := by
  rw [State.line_modifyLine, if_pos rfl]

theorem State.line_abandon_self : (s.abandon l).line l = { s.line l with move := none } := by
  rw [State.line_abandon, if_pos rfl]

/-- R5, R6: a move that is one begins at the drive that the pad has. -/
theorem State.line_startMove {kind : MoveKind} {t : Drive} (moves : ¬ (kind = .ordinary ∧ t = (s.line l).drive)) :
    (s.startMove l kind t).line l = (s.line l).moving kind t s.lineTime := by
  have drive : ((s.abandon l).line l).drive = (s.line l).drive := by rw [State.line_abandon_self]
  rw [State.startMove]
  simp only [drive, if_neg moves]
  rw [State.line_beginMove, if_pos rfl, State.line_abandon_self, State.abandon_lineTime, Line.command_eq_commanded,
    State.afterUs, State.abandon_lineTime]
  rfl

/-- R65: of the interlock table a move changes what the abandonment of the move before it does. -/
theorem State.interlocks_startMove (kind : MoveKind) (t : Drive) :
    (s.startMove l kind t).interlocks = (s.abandon l).interlocks := by
  rw [State.startMove]
  split_ifs <;> rfl

theorem State.line_driveTo (d : Drive) : (s.driveTo l d).line l = (s.line l).driven d s.lineTime := by
  rw [State.driveTo, Line.driven]
  split_ifs with present
  · rfl
  · rw [State.line_modifyLine_self, State.line_startMove s l fun both => present both.2.symm]

theorem State.interlocks_driveTo (d : Drive) :
    (s.driveTo l d).interlocks = if (s.line l).drive = d then s.interlocks else (s.abandon l).interlocks := by
  rw [State.driveTo]
  split_ifs
  · rfl
  · rw [State.modifyLine_interlocks, State.interlocks_startMove]

theorem State.interlocks_driveTo_of_noMove {d : Drive} (noMove : (s.line l).move = none) :
    (s.driveTo l d).interlocks = s.interlocks := by
  rw [State.interlocks_driveTo, State.abandon_none noMove, ite_self]

/-- R32, R36, R40: a line that leaves its holder. -/
theorem State.line_beginRelease (reason : FreeReason) (t : Drive) :
    (s.beginRelease l reason t).line l = (s.line l).released reason t s.lineTime := by
  rw [State.beginRelease, State.line_startMove _ l (by simp), State.line_modifyLine_self]
  rfl

/-- R65: of the interlock table a release changes what the abandonment of the line's move does. -/
theorem State.interlocks_beginRelease (reason : FreeReason) (t : Drive) (noMove : (s.line l).move = none) :
    (s.beginRelease l reason t).interlocks = s.interlocks := by
  rw [State.beginRelease, State.interlocks_startMove, State.abandon_none]
  · rfl
  · rw [State.line_modifyLine_self]
    exact noMove

theorem State.line_floatLine : (State.floatLine l s).line l =
    { (s.line l).moving .release .float s.lineTime with state := .releasing, freeReason := some .restart } := by
  rw [State.floatLine, State.line_startMove _ l (by simp), State.line_modifyLine_self]
  rfl

theorem State.line_grantLine (agent : Port) (term : Option Nat) :
    (State.grantLine agent term l s).line l = (s.line l).granted agent term s.lineTime := by
  rw [State.grantLine, State.line_enterChecked, State.line_modifyLine_self]
  rfl

theorem State.interlocks_grantLine (agent : Port) (term : Option Nat) :
    (State.grantLine agent term l s).interlocks = s.interlocks := State.interlocks_enterChecked _ l

/-- R46, R48: a pinned line as the profile holds it. -/
def Line.profileHeld (ln : Line) : Line :=
  { ln with state := .held, holder := .profile, heir := none, freeReason := none }

theorem State.line_pinLine : (State.pinLine l s).line l =
    ((s.line l).profileHeld.checkedIn s.lineTime).driven (s.line l).static.fallback s.lineTime := by
  have time := (State.enterChecked_same (s.modifyLine l Line.profileHeld) l).lineTime
  rw [State.pinLine]
  change (((s.modifyLine l Line.profileHeld).enterChecked l).driveTo l _).line l = _
  rw [State.line_driveTo, State.line_enterChecked, State.line_modifyLine_self, time]
  rfl

theorem State.line_pinLine_other {m : LineId} (other : m ≠ l) : (State.pinLine l s).line m = s.line m := by
  rw [State.pinLine, State.line_driveTo_other _ _ other, State.line_enterChecked_other _ other, State.line_modifyLine, if_neg other]

end

/-! ### What the written lines keep (R23) -/

section
variable (ln : Line) (now : LineTime)

@[simp] theorem Line.checkedIn_state : (ln.checkedIn now).state = ln.state := by
  unfold Line.checkedIn; split_ifs <;> rfl

@[simp] theorem Line.checkedIn_drive : (ln.checkedIn now).drive = ln.drive := by
  unfold Line.checkedIn; split_ifs <;> rfl

@[simp] theorem Line.checkedIn_move : (ln.checkedIn now).move = ln.move := by
  unfold Line.checkedIn; split_ifs <;> rfl

@[simp] theorem Line.checkedIn_holder : (ln.checkedIn now).holder = ln.holder := by
  unfold Line.checkedIn; split_ifs <;> rfl

/-- R13: what entering the checked condition writes. -/
theorem Line.checkedIn_eq : ln.checkedIn now = { ln with readback := (ln.checkedIn now).readback } := by
  unfold Line.checkedIn; split_ifs <;> rfl

theorem Line.granted_move (n : Port) (term : Option Nat) : (ln.granted n term now).move = ln.move := by
  rw [Line.granted, Line.checkedIn_move]

theorem Line.granted_drive (n : Port) (term : Option Nat) : (ln.granted n term now).drive = ln.drive := by
  rw [Line.granted, Line.checkedIn_drive]

/-- The state in which the readback check of a line in a checked drive starts (R13). -/
def Line.readbackAt (ln : Line) (now : LineTime) : Readback :=
  if ln.drive.asserted = some ln.observed then .armed else .counting (now + BitVec.ofNat 32 ln.static.settle)

variable {ln}

theorem Line.checkedIn_of_checked (held : ln.state = .held) (checked : ln.drive.checked = true) :
    ln.checkedIn now = { ln with readback := ln.readbackAt now } := if_pos ⟨held, checked⟩

theorem Line.checkedIn_of_unchecked (unchecked : ln.drive.checked = false) : ln.checkedIn now = ln :=
  if_neg fun both => by simp [unchecked] at both

/-- R27: what a grant writes before the line enters the checked condition. -/
def Line.holding (ln : Line) (n : Port) (term : Option Nat) (now : LineTime) : Line :=
  { ln with state := .held, holder := .agent n, freeReason := none, heir := heirUnless n ln.static.defaultHeir,
            term := term.map fun ms => now + BitVec.ofNat 32 (ms * 1000), termDue := false }

theorem Line.granted_eq (ln : Line) (n : Port) (term : Option Nat) :
    ln.granted n term now = (ln.holding n term now).checkedIn now := rfl

/-- R27: a line granted twice to one agent at one event is granted once. -/
theorem Line.granted_granted (ln : Line) (n : Port) (term : Option Nat) :
    (ln.granted n term now).granted n term now = ln.granted n term now := by
  cases checked : (ln.holding n term now).drive.checked with
  | false =>
    have once : (ln.holding n term now).checkedIn now = ln.holding n term now := Line.checkedIn_of_unchecked now checked
    rw [Line.granted_eq, Line.granted_eq, once]
    exact once
  | true =>
    rw [Line.granted_eq, Line.granted_eq, Line.checkedIn_of_checked now rfl checked]
    exact Line.checkedIn_of_checked now rfl checked

end

/-! ### One operation on each of a list of lines -/

section
variable {op : LineId → State → State} {f : LineId → Line → LineTime → Line}
  (own : ∀ l (s : State), (op l s).line l = f l (s.line l) s.lineTime)
  (others : ∀ l m (s : State), m ≠ l → (op l s).line m = s.line m)

include own others

/-- An operation that reads of the state its own line and the time writes each line of a list once, each as it stood. -/
theorem State.line_forLines (time : ∀ l (s : State), (op l s).lineTime = s.lineTime) :
    ∀ {ls : List LineId}, ls.Nodup → ∀ (s : State) (m : LineId),
      (State.forLines op ls s).line m = if m ∈ ls then f m (s.line m) s.lineTime else s.line m
  | [], _, s, m => by simp [State.forLines]
  | l :: ls, distinct, s, m => by
    obtain ⟨notAgain, distinct⟩ := List.nodup_cons.mp distinct
    rw [State.forLines, State.line_forLines time distinct, time]
    by_cases same : m = l
    · subst same
      rw [if_neg notAgain, own, if_pos List.mem_cons_self]
    · simp only [others l m s same, List.mem_cons, same, false_or]

/-- The same where the list may name a line twice, for an operation of which a second turn changes nothing. -/
theorem State.line_forLines_of_idempotent (time : ∀ l (s : State), (op l s).lineTime = s.lineTime)
    (again : ∀ l x now, f l (f l x now) now = f l x now) : ∀ (ls : List LineId) (s : State) (m : LineId),
      (State.forLines op ls s).line m = if m ∈ ls then f m (s.line m) s.lineTime else s.line m
  | [], s, m => by simp [State.forLines]
  | l :: ls, s, m => by
    rw [State.forLines, State.line_forLines_of_idempotent time again, time]
    by_cases same : m = l
    · subst same
      rw [own, again, ite_self, if_pos List.mem_cons_self]
    · simp only [others l m s same, List.mem_cons, same, false_or]

end

/-- An operation that leaves the interlock table for a line in no move leaves it for a list of such lines. -/
theorem State.interlocks_forLines {op : LineId → State → State}
    (table : ∀ l (s : State), (s.line l).move = none → (op l s).interlocks = s.interlocks)
    (others : ∀ l m (s : State), m ≠ l → (op l s).line m = s.line m) :
    ∀ {ls : List LineId}, ls.Nodup → ∀ {s : State}, (∀ l ∈ ls, (s.line l).move = none) →
      (State.forLines op ls s).interlocks = s.interlocks
  | [], _, _, _ => rfl
  | l :: ls, distinct, s, noMove => by
    obtain ⟨notAgain, distinct⟩ := List.nodup_cons.mp distinct
    rw [State.forLines, State.interlocks_forLines table others distinct fun m listed => ?_,
      table l s (noMove l List.mem_cons_self)]
    rw [others l m s fun same => notAgain (same ▸ listed)]
    exact noMove m (List.mem_cons_of_mem l listed)

theorem State.SameButLines.onlyLines {s t : State} (same : s.SameButLines t) : s.OnlyLines t := same

/-! ### Lists of lines in line order -/

theorem mem_ascending {ls : List LineId} {l : LineId} : l ∈ ascending ls ↔ l ∈ ls := by
  simp [ascending, allLines]

theorem pairwise_allLines : allLines.Pairwise (· < ·) := List.pairwise_lt_finRange 48

theorem pairwise_ascending (ls : List LineId) : (ascending ls).Pairwise (· < ·) :=
  pairwise_allLines.sublist List.filter_sublist

theorem nodup_ascending (ls : List LineId) : (ascending ls).Nodup :=
  (pairwise_ascending ls).imp fun lt => ne_of_lt lt

theorem nodup_allLines : allLines.Nodup := List.nodup_finRange 48

theorem mem_allLines (l : LineId) : l ∈ allLines := List.mem_finRange l

/-- R54: an initial drive is proposed for each line of the target once, in ascending order. -/
theorem proposals_lines (ls : List LineId) (d : Drive) : (proposals ls d).map (·.1) = ascending ls := by
  rw [proposals, List.map_map]
  exact List.map_id _

theorem mem_proposals {ls : List LineId} {d : Drive} {p : LineId × Drive} :
    p ∈ proposals ls d ↔ p.1 ∈ ls ∧ p.2 = d := by
  rw [proposals, List.mem_map]
  constructor
  · rintro ⟨l, listed, rfl⟩
    exact ⟨mem_ascending.mp listed, rfl⟩
  · rintro ⟨listed, rfl⟩
    exact ⟨p.1, mem_ascending.mpr listed, rfl⟩

/-! ### Several drives put to admission in order (R53, R54) -/

theorem State.driveAll_refused {s : State} {l : LineId} {d : Drive} {slot : RuleSlot}
    (refused : s.admission l d = some slot) (rest : List (LineId × Drive)) :
    s.driveAll ((l, d) :: rest) = .error (slot, l) := by rw [State.driveAll, refused]

theorem State.driveAll_admitted {s : State} {l : LineId} {d : Drive} (admitted : s.admission l d = none)
    (rest : List (LineId × Drive)) : s.driveAll ((l, d) :: rest) = (s.driveTo l d).driveAll rest := by
  rw [State.driveAll, admitted]

theorem driveAllAdmitsInOrder : DriveAllAdmitsInOrder := by
  refine ⟨fun s l d rest => ⟨rfl, fun slot refused => State.driveAll_refused refused rest, fun admitted => ?_⟩,
    fun ls d => ⟨?_, fun p => mem_proposals⟩⟩
  · exact ⟨s.driveTo l d, State.driveTo_same s l d, s.line_driveTo l d, fun m other => s.line_driveTo_other d other,
      s.interlocks_driveTo_of_noMove l, State.driveAll_admitted admitted rest⟩
  · rw [proposals_lines]
    exact pairwise_ascending ls

/-- R53: where every change is admitted, each line has been driven from where it stood. -/
theorem State.line_driveAll (es : List (LineId × Drive)) {s t : State} (driven : s.driveAll es = .ok t)
    (distinct : (es.map (·.1)).Nodup) {e : LineId × Drive} (listed : e ∈ es) :
    t.line e.1 = (s.line e.1).driven e.2 s.lineTime := by
  induction es generalizing s with
  | nil => cases listed
  | cons c rest ih =>
    obtain ⟨l, d⟩ := c
    obtain ⟨notAgain, distinct⟩ := List.nodup_cons.mp distinct
    cases admitted : s.admission l d with
    | some slot =>
      rw [State.driveAll_refused admitted] at driven
      cases driven
    | none =>
      rw [State.driveAll_admitted admitted] at driven
      obtain rfl | later := List.mem_cons.mp listed
      · rw [State.line_driveAll_other rest _ t l driven notAgain, State.line_driveTo]
      · have other : e.1 ≠ l := fun same => notAgain (List.mem_map.mpr ⟨e, later, same⟩)
        rw [ih driven distinct later, State.line_driveTo_other s d other, (State.driveTo_same s l d).lineTime]

/-- R27: a grant writes each line of its list, each once. -/
theorem State.line_grantLines (s : State) (agent : Port) (term : Option Nat) (ls : List LineId) (m : LineId) :
    (s.grantLines agent term ls).line m =
      if m ∈ ls then (s.line m).granted agent term s.lineTime else s.line m :=
  State.line_forLines_of_idempotent (f := fun _ x now => x.granted agent term now)
    (fun l u => u.line_grantLine l agent term) (fun _ _ u other => u.line_grantLine_other agent term other)
    (fun l u => (u.grantLine_same agent term l).lineTime) (fun _ x now => Line.granted_granted now x agent term) ls s m

theorem State.interlocks_grantLines (s : State) (agent : Port) (term : Option Nat) (ls : List LineId) :
    (s.grantLines agent term ls).interlocks = s.interlocks := by
  rw [State.grantLines]
  induction ls generalizing s with
  | nil => rfl
  | cons l ls ih => rw [State.forLines, ih, State.interlocks_grantLine]

end Sys2Proof.Machine

/-! PROOFS: what keeps the laws of the records, the holders and the interlock rules (O56 to O58): the tools. A law of the
records is kept where each line record is rewritten into a coherent one that keeps its binding; the interlock law is kept
where the assertion set shrinks, and where a line begins a move that admission grants. -/

namespace Sys2Proof.Machine

/-! ### Levels and rules that are matched by less (R50) -/

/-- Every level of `p` is one of `q`. -/
def Levels.Within (p q : Levels) : Prop := ∀ v, p.has v = true → q.has v = true

theorem Levels.Within.refl (p : Levels) : p.Within p := fun _ => id

theorem Levels.Within.trans {p q r : Levels} (first : p.Within q) (second : q.Within r) : p.Within r :=
  fun v => second v ∘ first v

theorem Levels.has_union (p q : Levels) (v : Level) : (p.union q).has v = (p.has v || q.has v) := by
  cases v <;> rfl

theorem Levels.within_union_left (p q : Levels) : p.Within (p.union q) := fun v has => by
  rw [Levels.has_union, has, Bool.true_or]

theorem Levels.within_union_right (p q : Levels) : q.Within (p.union q) := fun v has => by
  rw [Levels.has_union, has, Bool.or_true]

theorem Levels.union_within {p q r : Levels} (left : p.Within r) (right : q.Within r) : (p.union q).Within r :=
  fun v has => by
    rw [Levels.has_union, Bool.or_eq_true] at has
    exact has.elim (left v) (right v)

theorem Levels.empty_within (p : Levels) : Levels.empty.Within p := fun v has => by
  cases v <;> cases has

theorem Rule.matchedBy_mono {r : Rule} {f g : LineId → Levels} (within : ∀ l, (f l).Within (g l))
    (isMatched : r.matchedBy f = true) : r.matchedBy g = true := by
  rw [Rule.matchedBy, Bool.and_eq_true] at isMatched ⊢
  exact isMatched.imp (within r.x r.a) (within r.y r.b)

/-- A rule reads the sets at its own two lines. -/
theorem Rule.matchedBy_congr {r : Rule} {f g : LineId → Levels} (atX : f r.x = g r.x) (atY : f r.y = g r.y) :
    r.matchedBy f = r.matchedBy g := by rw [Rule.matchedBy, Rule.matchedBy, atX, atY]

theorem InterlockSlot.unmatched_mono {slot : InterlockSlot} {f g : LineId → Levels} (within : ∀ l, (f l).Within (g l))
    (unmatched : slot.unmatched g = true) : slot.unmatched f = true := by
  cases slot with
  | empty => rfl
  | rule r status origin =>
    cases status with
    | reserved => rfl
    | occupied =>
      simp only [InterlockSlot.unmatched, Bool.not_eq_true', ← Bool.not_eq_true] at unmatched ⊢
      exact fun isMatched => unmatched (Rule.matchedBy_mono within isMatched)

/-- R65: a slot settled by sets that its rule no longer matches holds to R51, and so does one that is left. -/
theorem InterlockSlot.unmatched_settle {slot : InterlockSlot} {f : LineId → Levels} (unmatched : slot.unmatched f = true) :
    (slot.settle f).unmatched f = true := by
  cases slot with
  | empty => rfl
  | rule r status origin =>
    cases status with
    | occupied => exact unmatched
    | reserved =>
      rw [InterlockSlot.settle]
      split_ifs with isMatched
      · rfl
      · simp [InterlockSlot.unmatched, isMatched]

/-! ### The levels of a line (R51) -/

theorem Line.drive_levels_within (ln : Line) : ln.drive.levels.Within ln.levels := by
  rw [Line.levels]
  cases ln.move with
  | none => exact .refl _
  | some m => exact (Levels.within_union_left _ _).trans (Levels.within_union_left _ _)

theorem Drive.stagesTo_target (p t : Drive) : (p.stagesTo t).target = t := by
  unfold Drive.stagesTo
  split <;> try split_ifs
  all_goals rfl

/-- R4: the drive of a move's first stage asserts what the present drive or the target does. -/
theorem Drive.stagesTo_first_levels (p t : Drive) : (p.stagesTo t).first.levels.Within (p.levels.union t.levels) := by
  have target : t.levels.Within (p.levels.union t.levels) := Levels.within_union_right _ _
  unfold Drive.stagesTo
  split
  · exact target
  · split_ifs <;> exact target
  · exact target
  · exact target
  · exact Levels.within_union_left _ _
  · exact target

/-- R51, R52: a line that begins a move asserts no more than the hypothetical set that admission looks at. -/
theorem Line.moving_levels (ln : Line) (kind : MoveKind) (t : Drive) (now : LineTime) :
    (ln.moving kind t now).levels.Within (ln.drive.levels.union t.levels) := by
  refine Levels.union_within (Levels.union_within (Drive.stagesTo_first_levels ln.drive t) ?_) (Levels.within_union_left _ _)
  rw [Drive.stagesTo_target]
  exact Levels.within_union_right _ _

theorem Line.released_levels (ln : Line) (reason : FreeReason) (t : Drive) (now : LineTime) :
    (ln.released reason t now).levels = (ln.moving .release t now).levels := rfl

theorem Line.driven_levels (ln : Line) (d : Drive) (now : LineTime) (moves : ln.drive ≠ d) :
    (ln.driven d now).levels = (ln.moving .ordinary d now).levels := by
  rw [Line.driven, if_neg moves]
  rfl

/-! ### Operations on line records alone -/

/-- Of the lines only `l` differs, and besides lines only the interlock table. -/
structure State.LineChange (s t : State) (l : LineId) : Prop where
  same : s.SameButLines t
  others : ∀ m, m ≠ l → t.line m = s.line m

namespace State.LineChange

variable {s t u : State} {l : LineId}

theorem trans (first : s.LineChange t l) (second : t.LineChange u l) : s.LineChange u l :=
  ⟨first.same.trans second.same, fun m other => (second.others m other).trans (first.others m other)⟩

theorem modifyLine (s : State) (l : LineId) (f : Line → Line) : s.LineChange (s.modifyLine l f) l :=
  ⟨State.modifyLine_same s l f, fun m other => by rw [State.line_modifyLine, if_neg other]⟩

theorem settleReserved (s : State) (l : LineId) : s.LineChange s.settleReserved l :=
  ⟨State.settleReserved_same s, fun m _ => State.line_settleReserved s m⟩

theorem abandon (s : State) (l : LineId) : s.LineChange (s.abandon l) l :=
  ⟨State.abandon_same s l, fun m other => by rw [State.line_abandon, if_neg other]⟩

theorem enterChecked (s : State) (l : LineId) : s.LineChange (s.enterChecked l) l :=
  ⟨State.enterChecked_same s l, fun _ other => State.line_enterChecked_other s other⟩

theorem driveTo (s : State) (l : LineId) (d : Drive) : s.LineChange (s.driveTo l d) l :=
  ⟨State.driveTo_same s l d, fun _ other => State.line_driveTo_other s d other⟩

theorem beginRelease (s : State) (l : LineId) (reason : FreeReason) (t : Drive) :
    s.LineChange (s.beginRelease l reason t) l :=
  ⟨State.beginRelease_same s l reason t, fun _ other => State.line_beginRelease_other s reason t other⟩

theorem floatLine (s : State) (l : LineId) : s.LineChange (State.floatLine l s) l :=
  ⟨State.floatLine_same s l, fun _ other => State.line_floatLine_other s other⟩

theorem pinLine (s : State) (l : LineId) : s.LineChange (State.pinLine l s) l :=
  ⟨State.pinLine_same s l, fun _ other => State.line_pinLine_other s l other⟩

theorem inheritLine (s : State) (heir : Port) (l : LineId) (wasMoving : Bool) :
    s.LineChange (s.inheritLine heir l wasMoving) l :=
  ⟨State.inheritLine_same s heir l wasMoving, fun _ other => State.line_inheritLine_other s heir l wasMoving other⟩

/-- A line that asserts what it asserted leaves the assertion set. -/
theorem assertion (change : s.LineChange t l) (levels : (t.line l).levels = (s.line l).levels) :
    t.assertion = s.assertion := by
  funext m
  by_cases same : m = l
  · rw [same]
    exact levels
  · rw [State.assertion, change.others m same, State.assertion]

/-- A line that asserts less shrinks the assertion set. -/
theorem within (change : s.LineChange t l) (levels : (t.line l).levels.Within (s.line l).levels) (m : LineId) :
    (t.assertion m).Within (s.assertion m) := by
  by_cases same : m = l
  · rw [same]
    exact levels
  · rw [State.assertion, change.others m same]
    exact .refl _

end State.LineChange

section
variable {s t : State}

theorem State.SameButLines.pendingList (same : s.SameButLines t) : t.pendingList = s.pendingList := by
  unfold State.SameButLines at same
  rw [same]

theorem State.SameButLines.store (same : s.SameButLines t) : t.store = s.store := by
  unfold State.SameButLines at same
  rw [same]

theorem State.SameButLines.loader (same : s.SameButLines t) : t.loader = s.loader := by
  unfold State.SameButLines at same
  rw [same]

theorem State.SameButLines.partState (same : s.SameButLines t) : t.partState = s.partState := by
  rw [State.partState, same.loader, State.partState]

theorem State.SameButLines.run (same : s.SameButLines t) (k : SlotId) : t.run k = s.run k := by
  rw [State.run, same.slots, State.run]

theorem State.SameButLines.live (same : s.SameButLines t) (n : Port) : t.live n = s.live n := by
  rw [State.live, State.session, same.sessions, State.live, State.session]

theorem State.SameButLines.isOpen (same : s.SameButLines t) (n : Port) : t.isOpen n = s.isOpen n := by
  rw [State.isOpen, same.live, State.isOpen]

theorem State.lineSet_congr (store : t.store = s.store) (q : SeqNumber) : t.lineSet q = s.lineSet q := by
  simp only [State.lineSet, State.steps, State.sequence, store]

theorem State.ruleAt_congr (table : t.interlocks = s.interlocks) (k : RuleSlot) : t.ruleAt k = s.ruleAt k := by
  rw [State.ruleAt, table, State.ruleAt]

theorem State.ruleAt_settleReserved (s : State) (k : RuleSlot) :
    s.settleReserved.ruleAt k = (s.ruleAt k).settle s.assertion := by
  have table : s.settleReserved.interlocks = Table.map (fun slot => slot.settle s.assertion) s.interlocks := by
    rw [State.settleReserved]
  rw [State.ruleAt, table, Table.get_map, State.ruleAt]

end

/-! ### Lines rewritten into coherent ones (R23, R24, R113) -/

/-- The record of line `l` in `t` is one that may follow the record in `s`: it is coherent, bound as before, and where it
is bound its holder is as before and it has no term; in STARTING it is FREE. -/
structure State.Rewrites (s t : State) (l : LineId) : Prop where
  own : (t.line l).Coherent
  binding : (t.line l).binding = (s.line l).binding
  bound : ∀ k, (s.line l).binding = some k → (t.line l).term = none ∧ (t.line l).holder = (s.line l).holder
  started : s.partState ≠ .starting ∨ (t.line l).state = .free

section
variable {s t : State} {l : LineId}

theorem State.Coherent.line (coherent : s.Coherent) (l : LineId) : (s.line l).Coherent := coherent.1 l

/-- R24, R47: a line that is not FREE tells that the part is past STARTING. -/
theorem State.Coherent.started (coherent : s.Coherent) (busy : (s.line l).state ≠ .free) : s.partState ≠ .starting := by
  obtain ⟨-, -, -, starting⟩ := coherent
  exact fun part => busy ((starting part).1 l)

theorem State.Coherent.starting_of_load (coherent : s.Coherent) (load : s.loader.load.isSome = true) :
    s.partState = .starting := coherent.2.2.1 load

/-- R113: the line of a bound record is held by the runner, with no term. -/
theorem State.Coherent.of_binding (coherent : s.Coherent) {k : SlotId} (bound : (s.line l).binding = some k) :
    (s.line l).term = none ∧ ∃ r, s.run k = some r ∧ (s.line l).holder = .agent r.agent ∧ l ∈ s.lineSet r.sequence := by
  obtain ⟨-, ⟨bindings, -⟩, -⟩ := coherent
  obtain ⟨term, r, run, held, listed⟩ := bindings l k bound
  exact ⟨term, r, run, held, listed⟩

theorem State.Coherent.binding_of_run (coherent : s.Coherent) {k : SlotId} {r : Run} (run : s.run k = some r)
    (listed : l ∈ s.lineSet r.sequence) : (s.line l).binding = some k := coherent.2.1.2 k r run l listed

theorem State.Coherent.rewrite (coherent : s.Coherent) (same : s.SameButLines t)
    (lines : ∀ l, t.line l = s.line l ∨ s.Rewrites t l) : t.Coherent := by
  obtain ⟨records, ⟨bindings, runs⟩, load, starting⟩ := coherent
  have binding (l : LineId) : (t.line l).binding = (s.line l).binding :=
    (lines l).elim (congrArg Line.binding) fun rewritten => rewritten.binding
  refine ⟨fun l => ?_, ⟨fun l k bound => ?_, fun k r run l listed => ?_⟩, fun loading => ?_, fun part => ⟨fun l => ?_, fun k => ?_⟩⟩
  · obtain kept | rewritten := lines l
    · rw [kept]
      exact records l
    · exact rewritten.own
  · rw [binding] at bound
    obtain ⟨term, r, run, held, listed⟩ := bindings l k bound
    rw [same.run]
    have keeps : (t.line l).term = none ∧ (t.line l).holder = (s.line l).holder := by
      obtain kept | rewritten := lines l
      · rw [kept]
        exact ⟨term, rfl⟩
      · exact rewritten.bound k bound
    exact ⟨keeps.1, r, run, keeps.2.trans held, State.lineSet_congr same.store _ ▸ listed⟩
  · rw [same.run] at run
    rw [State.lineSet_congr same.store] at listed
    rw [binding]
    exact runs k r run l listed
  · rw [same.loader] at loading
    rw [same.partState]
    exact load loading
  · rw [same.partState] at part
    obtain kept | rewritten := lines l
    · rw [kept]
      exact (starting part).1 l
    · exact rewritten.started.resolve_left (absurd part)
  · rw [same.partState] at part
    rw [same.run]
    exact (starting part).2 k

end

/-! ### Holders (R38, R87) -/

/-- The law of the holders is kept where nobody holds a line anew but with an open session, and no claim is added. -/
theorem State.HoldersOpen.of_fewer {s t : State} (holders : s.HoldersOpen) (opens : ∀ n, t.isOpen n = s.isOpen n)
    (lines : ∀ l n, (t.line l).holder = .agent n → (s.line l).holder = .agent n ∨ s.isOpen n = true)
    (pending : ∀ e ∈ t.pendingList, e ∈ s.pendingList) : t.HoldersOpen := by
  refine ⟨fun l n held => ?_, fun e listed => ?_⟩
  · rw [opens]
    exact (lines l n held).elim (holders.1 l n) id
  · rw [opens]
    exact holders.2 e (pending e listed)

/-! ### The rules that hold (R51, R52, R65) -/

section
variable {s t : State} {l : LineId} {d : Drive}

/-- R51, R65: the law is kept where the assertion set shrinks and the table is left or settled by what is asserted. -/
theorem State.RulesHold.shrink (rules : s.RulesHold) (within : ∀ l, (t.assertion l).Within (s.assertion l))
    (table : ∀ k, t.ruleAt k = s.ruleAt k ∨ t.ruleAt k = (s.ruleAt k).settle t.assertion) : t.RulesHold := fun k => by
  have unmatched := InterlockSlot.unmatched_mono within (rules k)
  obtain kept | settled := table k
  · rw [kept]
    exact unmatched
  · rw [settled]
    exact InterlockSlot.unmatched_settle unmatched

/-- The law is kept where what the lines assert and the table are left. -/
theorem State.RulesHold.congr (rules : s.RulesHold) (assertion : t.assertion = s.assertion)
    (table : t.interlocks = s.interlocks) : t.RulesHold :=
  rules.shrink (fun l => by rw [assertion]; exact .refl _) fun k => .inl (State.ruleAt_congr table k)

/-- R65: one line asserts less, and the table is settled at once. -/
theorem State.RulesHold.settled (rules : s.RulesHold) {f : Line → Line}
    (levels : (f (s.line l)).levels.Within (s.line l).levels) : (s.modifyLine l f).settleReserved.RulesHold := by
  have change := (State.LineChange.modifyLine s l f).trans (.settleReserved _ l)
  refine rules.shrink (change.within ?_) fun k => .inr ?_
  · rw [State.line_settleReserved, State.line_modifyLine_self]
    exact levels
  · rw [State.ruleAt_settleReserved, State.assertion_settleReserved]
    rfl

theorem State.rulesHold_abandon (rules : s.RulesHold) : (s.abandon l).RulesHold := by
  rw [State.abandon]
  split
  · exact rules
  · exact rules.settled (Line.drive_levels_within (s.line l))

/-- R52: the hypothetical set at a drive that adds no level lies within the assertion set. -/
theorem State.hypothetical_within (adds : d.addsTo (s.line l).drive = false) (m : LineId) :
    (s.hypothetical l d m).Within (s.assertion m) := by
  rw [State.hypothetical]
  split_ifs with same
  · rw [Drive.levels_union_of_not_addsTo adds, same]
    exact Line.drive_levels_within (s.line l)
  · exact .refl _

/-- R52: a drive that adds no level is admitted while no rule of the table is matched. -/
theorem State.admission_of_addsNone (rules : s.RulesHold) (adds : d.addsTo (s.line l).drive = false) :
    s.admission l d = none := by
  rw [State.admission_eq_none_iff]
  intro k refuses
  obtain ⟨r, status, origin, slot, -, isMatched, tested⟩ := InterlockSlot.refuses_iff.mp refuses
  have matchedNow := Rule.matchedBy_mono (State.hypothetical_within adds) isMatched
  cases status with
  | reserved => exact tested ⟨rfl, matchedNow, Drive.addsTo_eq_false_iff.mp adds⟩
  | occupied =>
    have unmatched := rules k
    rw [slot] at unmatched
    simp [InterlockSlot.unmatched, matchedNow] at unmatched

theorem State.admission_float (rules : s.RulesHold) : s.admission l .float = none :=
  State.admission_of_addsNone rules (Drive.addsTo_eq_false_iff.mpr (.inl rfl))

theorem State.fallbackOrFloat_admitted (rules : s.RulesHold) : s.admission l (s.fallbackOrFloat l) = none := by
  rw [State.fallbackOrFloat]
  split_ifs with admitted
  · exact Option.isNone_iff_eq_none.mp admitted
  · exact State.admission_float rules

theorem State.releaseTarget_admitted (rules : s.RulesHold) : s.admission l (s.releaseTarget l) = none := by
  rw [State.releaseTarget]
  split
  · exact State.admission_of_addsNone rules (Drive.addsTo_eq_false_iff.mpr (.inr rfl))
  · exact State.fallbackOrFloat_admitted rules

/-- R52: a slot that admits line `l` going to drive `d` is matched by no set within the hypothetical one. -/
theorem InterlockSlot.unmatched_of_admitted {slot : InterlockSlot} {sets : LineId → Levels}
    (unmatched : slot.unmatched s.assertion = true) (admits : ¬ slot.refuses s l d = true)
    (within : ∀ m, (sets m).Within (s.hypothetical l d m)) : slot.unmatched sets = true := by
  cases slot with
  | empty => rfl
  | rule r status origin =>
    cases status with
    | reserved => rfl
    | occupied =>
      simp only [InterlockSlot.unmatched, Bool.not_eq_true', ← Bool.not_eq_true] at unmatched ⊢
      intro isMatched
      have hypothetical := Rule.matchedBy_mono within isMatched
      by_cases named : r.x = l ∨ r.y = l
      · exact admits (InterlockSlot.refuses_rule_iff.mpr ⟨named, hypothetical, by simp⟩)
      · rw [not_or] at named
        rw [Rule.matchedBy_congr (if_neg named.1) (if_neg named.2)] at hypothetical
        exact unmatched hypothetical

/-- R9, R52, R65: the same of a slot that the abandonment of the line's own move settles first. -/
theorem InterlockSlot.unmatched_settle_of_admitted {slot : InterlockSlot} {sets : LineId → Levels}
    (unmatched : slot.unmatched s.assertion = true) (admits : ¬ slot.refuses s l d = true)
    (within : ∀ m, (sets m).Within (s.hypothetical l d m)) :
    (slot.settle (s.abandon l).assertion).unmatched sets = true := by
  have asIs := InterlockSlot.unmatched_of_admitted unmatched admits within
  cases slot with
  | empty => rfl
  | rule r status origin =>
    cases status with
    | occupied => exact asIs
    | reserved =>
      rw [InterlockSlot.settle]
      split_ifs with stillMatched
      · rfl
      · simp only [InterlockSlot.unmatched, Bool.not_eq_true', ← Bool.not_eq_true]
        intro isMatched
        have hypothetical := Rule.matchedBy_mono within isMatched
        have elsewhere (m : LineId) (other : m ≠ l) : s.hypothetical l d m = (s.abandon l).assertion m := by
          rw [State.hypothetical, if_neg other, State.assertion, State.assertion, State.line_abandon, if_neg other]
        by_cases named : r.x = l ∨ r.y = l
        · rw [InterlockSlot.refuses_rule_iff] at admits
          have addsNone : d.asserted = none ∨ d.asserted = (s.line l).drive.asserted := by
            by_contra adds
            exact admits ⟨named, hypothetical, fun skipped => adds skipped.2.2⟩
          have same : s.hypothetical l d = (s.abandon l).assertion := by
            funext m
            by_cases at_ : m = l
            · rw [at_, State.hypothetical, if_pos rfl,
                Drive.levels_union_of_not_addsTo (Drive.addsTo_eq_false_iff.mpr addsNone), State.assertion,
                State.line_abandon_self]
              rfl
            · exact elsewhere m at_
          exact stillMatched (same ▸ hypothetical)
        · rw [not_or] at named
          rw [Rule.matchedBy_congr (elsewhere _ named.1) (elsewhere _ named.2)] at hypothetical
          exact stillMatched hypothetical

/-- R51, R52: a line that begins an admitted change, its own move abandoned first, leaves every rule unmatched. -/
theorem State.RulesHold.of_admitted (rules : s.RulesHold) (admitted : s.admission l d = none) (change : s.LineChange t l)
    (levels : (t.line l).levels.Within ((s.line l).drive.levels.union d.levels))
    (table : t.interlocks = s.interlocks ∨ t.interlocks = (s.abandon l).interlocks) : t.RulesHold := fun k => by
  have admits := State.admission_eq_none_iff.mp admitted k
  have within (m : LineId) : (t.assertion m).Within (s.hypothetical l d m) := by
    rw [State.hypothetical]
    split_ifs with same
    · rw [same]
      exact levels
    · rw [State.assertion, change.others m same]
      exact .refl _
  have asIs := InterlockSlot.unmatched_of_admitted (rules k) admits within
  obtain kept | abandoned := table
  · rw [State.ruleAt_congr kept]
    exact asIs
  · rw [State.ruleAt_congr abandoned, State.ruleAt, State.interlocks_abandon]
    split_ifs
    · rw [Table.get_map]
      exact InterlockSlot.unmatched_settle_of_admitted (rules k) admits within
    · exact asIs

theorem State.rulesHold_driveTo (rules : s.RulesHold) (admitted : s.admission l d = none) : (s.driveTo l d).RulesHold := by
  by_cases present : (s.line l).drive = d
  · rw [State.driveTo, if_pos present]
    exact rules
  · refine rules.of_admitted admitted (.driveTo s l d) ?_ (.inr ?_)
    · rw [State.line_driveTo, Line.driven_levels _ _ _ present]
      exact Line.moving_levels _ _ _ _
    · rw [State.interlocks_driveTo, if_neg present]

/-- R65: the abandonment of a line's move settles the table by that line's drive, whatever else its record says. -/
theorem State.interlocks_modifyLine_abandon {f : Line → Line} (drive : (f (s.line l)).drive = (s.line l).drive)
    (move : (f (s.line l)).move = (s.line l).move) :
    ((s.modifyLine l f).abandon l).interlocks = (s.abandon l).interlocks := by
  have assertion : ((s.modifyLine l f).abandon l).assertion = (s.abandon l).assertion := by
    funext m
    by_cases same : m = l
    · rw [same, State.assertion, State.assertion, State.line_abandon_self, State.line_abandon_self,
        State.line_modifyLine_self, Line.levels_of_noMove rfl, Line.levels_of_noMove rfl]
      exact congrArg Drive.levels drive
    · rw [State.assertion, State.assertion, State.line_abandon, State.line_abandon, if_neg same, if_neg same,
        State.line_modifyLine, if_neg same]
  rw [State.interlocks_abandon, State.interlocks_abandon, assertion, State.line_modifyLine_self, move]
  rfl

theorem State.rulesHold_beginRelease (rules : s.RulesHold) (reason : FreeReason) (admitted : s.admission l d = none) :
    (s.beginRelease l reason d).RulesHold := by
  refine rules.of_admitted admitted (.beginRelease s l reason d) ?_ (.inr ?_)
  · rw [State.line_beginRelease, Line.released_levels]
    exact Line.moving_levels _ _ _ _
  · rw [State.beginRelease, State.interlocks_startMove]
    exact State.interlocks_modifyLine_abandon rfl rfl

end

end Sys2Proof.Machine

/-! PROOFS: every operation on lines, runs, claims and sessions keeps the laws of the records, the holders and the
interlock rules (O56 to O58). An operation is stated with what it needs of the state: a line that is driven has a holder,
a line that is released is bound to no run, a line that is granted is FREE. -/

namespace Sys2Proof.Machine

/-! ### What keeps the three laws -/

/-- A change of the state after which the records are coherent, and no interlock rule is matched, where it was so before
it. -/
structure State.KeepsRecords (s t : State) : Prop where
  coherent : s.Coherent → t.Coherent
  rules : s.Coherent → s.StartFloating → s.RulesHold → t.StartFloating ∧ t.RulesHold

/-- A change that keeps these two laws and that of the holders. -/
structure State.KeepsLaws (s t : State) : Prop extends s.KeepsRecords t where
  holders : s.HoldersOpen → t.HoldersOpen

theorem State.KeepsRecords.trans {s t u : State} (first : s.KeepsRecords t) (second : t.KeepsRecords u) :
    s.KeepsRecords u where
  coherent := second.coherent ∘ first.coherent
  rules coherent floating hold :=
    have ⟨floating', hold'⟩ := first.rules coherent floating hold
    second.rules (first.coherent coherent) floating' hold'

/-- The second change may ask for the coherence of the state before the first. -/
theorem State.KeepsRecords.trans_of {s t u : State} (first : s.KeepsRecords t)
    (second : s.Coherent → t.KeepsRecords u) : s.KeepsRecords u where
  coherent coherent := (second coherent).coherent (first.coherent coherent)
  rules coherent := (first.trans (second coherent)).rules coherent

/-- The fields, other than the lines, that the laws read. -/
def State.lawContext (s : State) :
    Vector (Option Run) 2 × Vector (Option Sequence) 8 × PartState × Option LoadRun × Vector InterlockSlot 32 ×
      List Entry × (Port → Bool) :=
  (s.slots, s.store, s.partState, s.loader.load, s.interlocks, s.pendingList, s.isOpen)

/-- Two line records that the laws do not tell apart. -/
structure Line.Alike (x y : Line) : Prop where
  rest : y = { x with observed := y.observed, keeper := y.keeper, readback := y.readback, statics := y.statics }
  keeper : y.keeper.isSome = x.keeper.isSome

theorem Line.Alike.refl (x : Line) : x.Alike x := ⟨rfl, rfl⟩

theorem Line.Alike.coherent {x y : Line} (alike : x.Alike y) (coherent : x.Coherent) : y.Coherent := by
  obtain ⟨rest, keeper⟩ := alike
  unfold Line.Coherent
  rw [keeper, rest]
  exact coherent

theorem Line.Alike.levels {x y : Line} (alike : x.Alike y) : y.levels = x.levels := by
  rw [alike.rest]
  rfl

section
variable {s t : State}

/-- R20, R45: past STARTING no load is in progress, so the law of the pads asks nothing. -/
theorem State.StartFloating.of_started (coherent : s.Coherent) (started : s.partState ≠ .starting)
    (load : t.loader.load = s.loader.load) : t.StartFloating := by
  rintro r loading
  rw [load] at loading
  have loadingNow : s.loader.load.isSome = true := by rw [loading, Option.isSome_some]
  exact absurd (coherent.starting_of_load loadingNow) started

theorem State.StartFloating.of_drives (floating : s.StartFloating) (load : t.loader.load = s.loader.load)
    (drives : ∀ l, (t.line l).drive = (s.line l).drive ∨ (t.line l).drive = .float) : t.StartFloating :=
  fun r loading reset l => (drives l).elim (fun same => same.trans (floating r (load ▸ loading) reset l)) id

namespace State.KeepsLaws

theorem refl (s : State) : s.KeepsLaws s := ⟨⟨id, fun _ => .intro⟩, id⟩

theorem trans {u : State} (first : s.KeepsLaws t) (second : t.KeepsLaws u) : s.KeepsLaws u :=
  ⟨first.toKeepsRecords.trans second.toKeepsRecords, second.holders ∘ first.holders⟩

theorem ite {u : State} {p : Prop} [Decidable p] (ifTrue : p → s.KeepsLaws t) (ifFalse : ¬ p → s.KeepsLaws u) :
    s.KeepsLaws (if p then t else u) := by
  split_ifs with holds
  · exact ifTrue holds
  · exact ifFalse holds

/-- A change that the laws cannot see keeps them. -/
theorem of_alike (context : t.lawContext = s.lawContext) (alike : ∀ l, (s.line l).Alike (t.line l)) : s.KeepsLaws t := by
  simp only [State.lawContext, Prod.mk.injEq] at context
  obtain ⟨slots, store, part, load, interlocks, pending, opens⟩ := context
  have run (k : SlotId) : t.run k = s.run k := by rw [State.run, slots, State.run]
  have lineSet := State.lineSet_congr store
  have rest (l : LineId) := (alike l).rest
  have state (l : LineId) : (t.line l).state = (s.line l).state := by rw [rest l]
  have term (l : LineId) : (t.line l).term = (s.line l).term := by rw [rest l]
  have holder (l : LineId) : (t.line l).holder = (s.line l).holder := by rw [rest l]
  have binding (l : LineId) : (t.line l).binding = (s.line l).binding := by rw [rest l]
  have drive (l : LineId) : (t.line l).drive = (s.line l).drive := by rw [rest l]
  refine ⟨⟨fun ⟨records, bindings, starting⟩ => ⟨fun l => (alike l).coherent (records l), ?_, ?_⟩,
    fun _ floating hold => ⟨floating.of_drives load fun l => .inl (drive l), ?_⟩⟩, fun holders => ?_⟩
  · unfold State.BindingsSound
    simp only [run, lineSet, term, holder, binding]
    exact bindings
  · unfold State.StartingSound
    simp only [part, load, run, state]
    exact starting
  · exact hold.congr (funext fun l => (alike l).levels) interlocks
  · refine holders.of_fewer (congrFun opens) (fun l n held => .inl ?_) fun e => ?_
    · rwa [holder] at held
    · rw [pending]
      exact id

/-- A change of none of the fields that the laws read keeps them. -/
theorem of_same (lines : t.lines = s.lines) (context : t.lawContext = s.lawContext) : s.KeepsLaws t :=
  of_alike context fun l => by rw [State.line, State.line, lines]; exact .refl _

theorem forLines {op : LineId → State → State} (keeps : ∀ l (s : State), s.KeepsLaws (op l s)) :
    ∀ (ls : List LineId) (s : State), s.KeepsLaws (State.forLines op ls s)
  | [], s => refl s
  | l :: ls, s => (keeps l s).trans (forLines keeps ls (op l s))

/-- The same for an operation that asks something of its line, which the operation on another line leaves standing. -/
theorem forLines_of {op : LineId → State → State} {asks : LineId → State → Prop}
    (keeps : ∀ l (s : State), asks l s → s.KeepsLaws (op l s))
    (stands : ∀ l m (s : State), m ≠ l → asks m s → asks m (op l s)) :
    ∀ {ls : List LineId}, ls.Nodup → ∀ {s : State}, (∀ l ∈ ls, asks l s) → s.KeepsLaws (State.forLines op ls s)
  | [], _, s, _ => refl s
  | l :: ls, distinct, s, given => by
    obtain ⟨notAgain, distinct⟩ := List.nodup_cons.mp distinct
    refine (keeps l s (given l List.mem_cons_self)).trans (forLines_of keeps stands distinct fun m listed => ?_)
    exact stands l m s (fun same => notAgain (same ▸ listed)) (given m (List.mem_cons_of_mem l listed))

theorem foldl {α : Type} {op : State → α → State} (keeps : ∀ (s : State) a, s.KeepsLaws (op s a)) :
    ∀ (as : List α) (s : State), s.KeepsLaws (as.foldl op s)
  | [], s => refl s
  | a :: as, s => (keeps s a).trans (foldl keeps as (op s a))

/-- A rewritten line keeps the laws where its record may follow, nobody holds it anew, its drive asserts what a load
after a reset lets it, and the rules hold after it. -/
theorem of_lineChange {l : LineId} (change : s.LineChange t l) (rewrites : s.Coherent → s.Rewrites t l)
    (holder : ∀ n, (t.line l).holder = .agent n → (s.line l).holder = .agent n ∨ s.isOpen n = true)
    (drive : s.Coherent → s.partState ≠ .starting ∨ (t.line l).drive = (s.line l).drive ∨ (t.line l).drive = .float)
    (rules : s.RulesHold → t.RulesHold) : s.KeepsLaws t := by
  have load : t.loader.load = s.loader.load := by rw [change.same.loader]
  have orElse {p : LineId → Prop} (same : ∀ m, m ≠ l → p m) (own : p l) (m : LineId) : p m := by
    by_cases at_ : m = l
    · rw [at_]
      exact own
    · exact same m at_
  refine ⟨⟨fun coherent => coherent.rewrite change.same ?_, fun coherent floating hold => ⟨?_, rules hold⟩⟩,
    fun holders => holders.of_fewer change.same.isOpen ?_ fun e => by rw [change.same.pendingList]; exact id⟩
  · exact orElse (fun m other => .inl (change.others m other)) (.inr (rewrites coherent))
  · obtain started | drive := drive coherent
    · exact .of_started coherent started load
    · refine floating.of_drives load (orElse (fun m other => .inl ?_) drive)
      rw [change.others m other]
  · refine orElse (fun m other n held => .inl ?_) holder
    rwa [change.others m other] at held

end State.KeepsLaws

end

/-! ### Changes of sessions, ports and the Loader's record -/

section
variable (s : State) (n : Port)

theorem State.keepsLaws_modifyLive (f : Live → Live) : s.KeepsLaws (s.modifyLive n f) :=
  .of_same rfl (by
    simp only [State.lawContext, Prod.mk.injEq]
    exact ⟨rfl, rfl, rfl, rfl, rfl, rfl, funext fun m => State.isOpen_modifyLive s n m f⟩)

theorem State.keepsLaws_modifyNotices (f : Live → Live) : s.KeepsLaws (s.modifyNotices n f) :=
  (s.keepsLaws_modifyLive n f).trans (.of_same rfl rfl)

theorem State.keepsLaws_modifyPort (f : PortRecord → PortRecord) : s.KeepsLaws (s.modifyPort n f) := .of_same rfl rfl

theorem State.keepsLaws_sense (level : Level) : s.KeepsLaws (s.sense n level) := .of_same rfl rfl

/-- A change of the Loader's record that leaves the part state and the load in progress. -/
theorem State.keepsLaws_modifyLoader {f : Loader → Loader} (part : (f s.loader).partState = s.loader.partState)
    (load : (f s.loader).load = s.loader.load) : s.KeepsLaws (s.modifyLoader f) :=
  .of_same rfl (by
    simp only [State.lawContext, State.modifyLoader, State.partState, part, load]
    rfl)

end

/-! ### Line records that stay coherent (R1, R23, R24) -/

section
variable {ln : Line} {now : LineTime}

theorem Line.commanded_keeper (d : Drive) (now : LineTime)
    (keeper : ln.keeper.isSome = true ↔ ln.drive = .keep false ∨ ln.drive = .keep true) :
    (ln.commanded d now).keeper.isSome = true ↔ d = .keep false ∨ d = .keep true := by
  rw [← Line.command_eq_commanded]
  exact Line.command_keeper d now keeper

/-- R23: a coherent line with a holder is HELD or MOVING. -/
theorem Line.Coherent.busy (coherent : ln.Coherent) (held : ln.holder ≠ .none) :
    ln.state = .held ∨ ln.state = .moving := by
  obtain ⟨-, -, -, -, -, holder, -⟩ := coherent
  exact holder.mp held

theorem Line.Coherent.not_free (coherent : ln.Coherent) (held : ln.holder ≠ .none) : ln.state ≠ .free := by
  obtain state | state := coherent.busy held <;> simp [state]

/-- R30: a HELD or MOVING line that is driven is coherent. -/
theorem Line.Coherent.driven (coherent : ln.Coherent) (held : ln.holder ≠ .none) (d : Drive) :
    (ln.driven d now).Coherent := by
  have busy := coherent.busy held
  rw [Line.driven]
  split_ifs with present
  · exact coherent
  · obtain ⟨-, free, prior, due, heir, -, keeper⟩ := coherent
    refine ⟨by simp [Line.moving], ?_, prior, fun isDue => ⟨rfl, (due isDue).2⟩, heir, ?_,
      Line.commanded_keeper _ now keeper⟩
    · have notFree : ¬ (ln.state = .free ∨ ln.state = .releasing) := by
        obtain state | state := busy <;> simp [state]
      exact iff_of_false (fun reason => notFree (free.mp reason)) (by simp)
    · exact iff_of_true held (.inr rfl)

/-- R32: a line that is released is coherent, whatever else its record said. -/
theorem Line.released_coherent (keeper : ln.keeper.isSome = true ↔ ln.drive = .keep false ∨ ln.drive = .keep true)
    (reason : FreeReason) (t : Drive) : (ln.released reason t now).Coherent := by
  refine ⟨?_, ?_, ?_, nofun, nofun, ?_, Line.commanded_keeper _ now keeper⟩ <;> simp [Line.released, Line.moving]

end

/-! ### Moves that admission grants, and releases -/

section
variable {s : State} {l : LineId}

theorem Line.driven_holder (ln : Line) (d : Drive) (now : LineTime) : (ln.driven d now).holder = ln.holder := by
  unfold Line.driven; split_ifs <;> rfl

theorem Line.driven_binding (ln : Line) (d : Drive) (now : LineTime) : (ln.driven d now).binding = ln.binding := by
  unfold Line.driven; split_ifs <;> rfl

theorem Line.driven_term (ln : Line) (d : Drive) (now : LineTime) : (ln.driven d now).term = ln.term := by
  unfold Line.driven; split_ifs <;> rfl

/-- R24: a line with a holder tells that the part is past STARTING. -/
theorem State.Coherent.started_of_held (coherent : s.Coherent) (held : (s.line l).holder ≠ .none) :
    s.partState ≠ .starting := coherent.started ((coherent.line l).not_free held)

/-- R24, R113: a line with no holder, or with a term, is bound to no run. -/
theorem State.Coherent.unbound (coherent : s.Coherent)
    (loose : (s.line l).holder = .none ∨ (s.line l).term.isSome = true) : (s.line l).binding = none := by
  rw [Option.eq_none_iff_forall_not_mem]
  intro k bound
  obtain ⟨term, r, -, held, -⟩ := coherent.of_binding bound
  obtain holder | hasTerm := loose
  · simp [held] at holder
  · simp [term] at hasTerm

theorem State.Coherent.holder_of_free (coherent : s.Coherent) (free : (s.line l).state = .free) :
    (s.line l).holder = .none := by
  by_contra held
  exact (coherent.line l).not_free held free

/-- R30, R52: a line with a holder that is driven, where admission grants the drive. -/
theorem State.keepsLaws_driveTo {d : Drive} (held : s.Coherent → (s.line l).holder ≠ .none)
    (admitted : s.admission l d = none) : s.KeepsLaws (s.driveTo l d) := by
  refine .of_lineChange (.driveTo s l d) (fun coherent => ?_) (fun n => ?_)
    (fun coherent => .inl (coherent.started_of_held (held coherent))) fun rules => State.rulesHold_driveTo rules admitted
  · refine ⟨?_, ?_, fun k bound => ?_, .inl (coherent.started_of_held (held coherent))⟩
    · rw [State.line_driveTo]
      exact (coherent.line l).driven (held coherent) d
    · rw [State.line_driveTo, Line.driven_binding]
    · rw [State.line_driveTo, Line.driven_term, Line.driven_holder]
      exact ⟨(coherent.of_binding bound).1, rfl⟩
  · rw [State.line_driveTo, Line.driven_holder]
    exact .inl

/-- R53: several drives put to admission in order, on lines that have holders. -/
theorem State.keepsLaws_driveAll (es : List (LineId × Drive)) {s t : State} (driven : s.driveAll es = .ok t)
    (held : ∀ e ∈ es, (s.line e.1).holder ≠ .none) : s.KeepsLaws t := by
  induction es generalizing s with
  | nil =>
    cases driven
    exact .refl _
  | cons e rest ih =>
    obtain ⟨l, d⟩ := e
    cases admitted : s.admission l d with
    | some slot =>
      rw [State.driveAll_refused admitted] at driven
      cases driven
    | none =>
      rw [State.driveAll_admitted admitted] at driven
      refine (State.keepsLaws_driveTo (fun _ => held _ List.mem_cons_self) admitted).trans (ih driven fun e later => ?_)
      have before := held e (List.mem_cons_of_mem _ later)
      by_cases same : e.1 = l
      · rw [same, State.line_driveTo, Line.driven_holder, ← same]
        exact before
      · rwa [State.line_driveTo_other s d same]

/-- The record of a line that is released may follow one that is bound to no run. -/
theorem State.Coherent.rewrites_released {t : State} {reason : FreeReason} {target : Drive} {now : LineTime}
    (coherent : s.Coherent) (line : t.line l = (s.line l).released reason target now)
    (unbound : (s.line l).binding = none) (started : s.partState ≠ .starting) : s.Rewrites t l := by
  obtain ⟨-, -, -, -, -, -, keeper⟩ := coherent.line l
  refine ⟨?_, ?_, fun k bound => ?_, .inl started⟩
  · rw [line]
    exact Line.released_coherent keeper reason target
  · rw [line]
    rfl
  · rw [unbound] at bound
    cases bound

/-- R32, R36, R40: a line bound to no run that leaves its holder, where admission grants the target. -/
theorem State.keepsLaws_beginRelease (reason : FreeReason) {target : Drive}
    (unbound : s.Coherent → (s.line l).binding = none) (started : s.Coherent → s.partState ≠ .starting)
    (admitted : s.RulesHold → s.admission l target = none) : s.KeepsLaws (s.beginRelease l reason target) := by
  have line := s.line_beginRelease l reason target
  refine .of_lineChange (.beginRelease s l reason target)
    (fun coherent => coherent.rewrites_released line (unbound coherent) (started coherent)) (fun n held => ?_)
    (fun coherent => .inl (started coherent)) fun rules => State.rulesHold_beginRelease rules reason (admitted rules)
  rw [line] at held
  cases held

/-- R13: the readback check is none of what the laws read. -/
theorem State.keepsLaws_enterChecked (s : State) (l : LineId) : s.KeepsLaws (s.enterChecked l) := by
  refine .of_alike ?_ fun m => ?_
  · have same := State.enterChecked_same s l
    simp only [State.lawContext, same.slots, same.store, same.partState, same.loader, same.pendingList,
      State.interlocks_enterChecked, funext same.isOpen]
  · by_cases at_ : m = l
    · rw [at_, State.line_enterChecked, Line.checkedIn_eq]
      exact ⟨rfl, rfl⟩
    · rw [State.line_enterChecked_other s at_]
      exact .refl _

end

/-! ### Runs (chapter 6) -/

section
variable (s : State) (k : SlotId)

/-- A change of a run that leaves its sequence and its agent. -/
theorem State.keepsLaws_modifyRun {f : Run → Run} (sequence : ∀ r, (f r).sequence = r.sequence)
    (agent : ∀ r, (f r).agent = r.agent) : s.KeepsLaws (s.modifyRun k f) := by
  have run (j : SlotId) : (s.modifyRun k f).run j = if j = k then (s.run k).map f else s.run j := State.run_setRun s k j _
  have others (j : SlotId) {r : Run} (known : (s.modifyRun k f).run j = some r) :
      ∃ r', s.run j = some r' ∧ r'.sequence = r.sequence ∧ r'.agent = r.agent := by
    rw [run] at known
    split_ifs at known with same
    · obtain ⟨r', before, rfl⟩ := Option.map_eq_some_iff.mp known
      exact ⟨r', same ▸ before, (sequence r').symm, (agent r').symm⟩
    · exact ⟨r, known, rfl, rfl⟩
  refine ⟨⟨fun ⟨records, ⟨bindings, runs⟩, load, starting⟩ => ⟨records, ⟨fun l j bound => ?_, fun j r known l listed => ?_⟩,
    load, fun part => ⟨(starting part).1, fun j => ?_⟩⟩, fun _ floating hold => ⟨floating, hold⟩⟩, id⟩
  · obtain ⟨term, r, before, held, listed⟩ := bindings l j bound
    refine ⟨term, if j = k then f r else r, ?_, ?_, ?_⟩
    · rw [run]
      split_ifs with same
      · rw [← same, before]
        rfl
      · exact before
    · split_ifs
      · rw [agent]
        exact held
      · exact held
    · split_ifs
      · rw [sequence]
        exact listed
      · exact listed
  · obtain ⟨r', before, same, -⟩ := others j known
    exact runs j r' before l (same ▸ listed)
  · rw [run, (starting part).2 j, (starting part).2 k, Option.map_none, ite_self]

theorem State.keepsLaws_setPhase (p : RunPhase) : s.KeepsLaws (s.setPhase k p) :=
  s.keepsLaws_modifyRun k (fun _ => rfl) fun _ => rfl

theorem Line.Coherent.unbind {ln : Line} (coherent : ln.Coherent) (b : Option SlotId) :
    ({ ln with binding := b } : Line).Coherent := coherent

/-- R120, R123: the end of a run unbinds its lines with it. -/
theorem State.keepsLaws_dropRun : s.KeepsLaws (s.dropRun k) := by
  have same := State.dropRun_same s k
  have store : (s.dropRun k).store = s.store := by rw [State.dropRun_eq]
  have loader : (s.dropRun k).loader = s.loader := same.loader
  have line := State.line_dropRun s k
  have run := State.run_dropRun s k
  have levels (l : LineId) : ((s.dropRun k).line l).levels = (s.line l).levels := by
    rw [line]
    rfl
  have binding (l : LineId) : ((s.dropRun k).line l).binding =
      if (s.line l).binding = some k then none else (s.line l).binding := by rw [line]
  have term (l : LineId) : ((s.dropRun k).line l).term = (s.line l).term := by rw [line]
  have holder (l : LineId) : ((s.dropRun k).line l).holder = (s.line l).holder := by rw [line]
  refine ⟨⟨fun ⟨records, ⟨bindings, runs⟩, load, starting⟩ => ⟨fun l => ?_, ⟨fun l j bound => ?_, fun j r known l listed => ?_⟩,
    ?_, fun part => ⟨fun l => ?_, fun j => ?_⟩⟩, fun _ floating hold => ⟨?_, ?_⟩⟩, fun holders => ?_⟩
  · rw [line]
    exact (records l).unbind _
  · rw [Option.mem_def, binding] at bound
    split_ifs at bound with own
    have other : j ≠ k := fun e => own (e ▸ bound)
    rw [term, holder, run, if_neg other]
    obtain ⟨noTerm, r, known, held, listed⟩ := bindings l j bound
    rw [← State.lineSet_congr store] at listed
    exact ⟨noTerm, r, known, held, listed⟩
  · rw [Option.mem_def, run] at known
    split_ifs at known with own
    rw [State.lineSet_congr store] at listed
    have bound := runs j r known l listed
    rw [binding, bound, if_neg fun e => own (Option.some.inj e)]
  · rw [State.partState, loader]
    exact load
  · rw [State.partState, loader] at part
    rw [line]
    exact (starting part).1 l
  · rw [State.partState, loader] at part
    rw [run, (starting part).2 j, ite_self]
  · refine floating.of_drives (by rw [loader]) fun l => .inl ?_
    rw [line]
  · exact hold.congr (funext levels) (by rw [State.dropRun_eq])
  · refine holders.of_fewer (fun n => ?_) (fun l n held => .inl ?_) fun e => by rw [same.pendingList]; exact id
    · rw [State.isOpen, State.live, State.session_dropRun]
      rfl
    · rwa [holder] at held

theorem State.keepsLaws_haltRun (reason : HaltReason) : s.KeepsLaws (s.haltRun k reason) := by
  unfold State.haltRun
  cases s.run k with
  | none => exact .refl s
  | some r => exact (s.keepsLaws_dropRun k).trans (State.keepsLaws_modifyNotices _ r.agent _)

theorem State.keepsLaws_finishRun : s.KeepsLaws (s.finishRun k) := by
  unfold State.finishRun
  cases s.run k with
  | none => exact .refl s
  | some r => exact (s.keepsLaws_dropRun k).trans (State.keepsLaws_modifyNotices _ r.agent _)

variable {s k}

/-- R113: the lines that the steps name are in the line set of the run in the slot. -/
def State.Covers (s : State) (k : SlotId) (steps : List SeqStep) : Prop :=
  ∃ r, s.run k = some r ∧ ∀ st ∈ steps, st.line ∈ s.lineSet r.sequence

theorem State.Covers.modifyRun {steps : List SeqStep} (covers : s.Covers k steps) {f : Run → Run}
    (sequence : ∀ r, (f r).sequence = r.sequence) : (s.modifyRun k f).Covers k steps := by
  obtain ⟨r, run, lines⟩ := covers
  refine ⟨f r, ?_, fun st listed => ?_⟩
  · rw [State.modifyRun, State.run_setRun, if_pos rfl, run, Option.map_some]
  · rw [sequence]
    exact lines st listed

/-- R113: a line that a covered step names has a holder. -/
theorem State.Covers.held {st : SeqStep} {rest : List SeqStep} (covers : s.Covers k (st :: rest)) (coherent : s.Coherent) :
    (s.line st.line).holder ≠ .none := by
  obtain ⟨r, run, lines⟩ := covers
  obtain ⟨-, r', -, held, -⟩ := coherent.of_binding (coherent.binding_of_run run (lines st List.mem_cons_self))
  simp [held]

theorem State.Covers.tail {st : SeqStep} {rest : List SeqStep} (covers : s.Covers k (st :: rest)) : s.Covers k rest := by
  obtain ⟨r, run, lines⟩ := covers
  exact ⟨r, run, fun st listed => lines st (List.mem_cons_of_mem _ listed)⟩

theorem State.keepsLaws_beginSteps (k : SlotId) (steps : List SeqStep) (n : Nat) {s : State} (covers : s.Covers k steps) :
    s.KeepsLaws (State.beginSteps k steps n s) := by
  induction steps generalizing n s with
  | nil => exact s.keepsLaws_finishRun k
  | cons st rest ih =>
    have stepped := covers.modifyRun (f := fun r => { r with step := n }) fun _ => rfl
    rw [State.beginSteps]
    refine (s.keepsLaws_modifyRun k (f := fun r => { r with step := n }) (fun _ => rfl) fun _ => rfl).trans ?_
    generalize s.modifyRun k _ = u at stepped
    cases admitted : u.admission st.line st.drive with
    | some slot => exact u.keepsLaws_haltRun k _
    | none =>
      dsimp only
      split_ifs
      · exact ih (n + 1) stepped.tail
      · exact u.keepsLaws_setPhase k _
      · exact (State.keepsLaws_driveTo stepped.held admitted).trans (State.keepsLaws_setPhase _ k _)

/-- R113: the steps of a store entry are covered by a run of it. -/
theorem State.covers_steps {r : Run} (run : s.run k = some r) {steps : List SeqStep}
    (listed : steps ⊆ s.steps r.sequence) : s.Covers k steps :=
  ⟨r, run, fun _ mem => mem_ascending.mpr (List.mem_map_of_mem (listed mem))⟩

theorem State.keepsLaws_endHold (s : State) (k : SlotId) : s.KeepsLaws (s.endHold k) := by
  unfold State.endHold
  cases run : s.run k with
  | none => exact .refl s
  | some r => exact State.keepsLaws_beginSteps k _ _ (State.covers_steps run (List.drop_subset _ _))

theorem State.keepsLaws_beginHold (s : State) (k : SlotId) (r : Run) : s.KeepsLaws (s.beginHold k r) := by
  unfold State.beginHold
  dsimp only
  split_ifs
  · exact s.keepsLaws_endHold k
  · exact s.keepsLaws_setPhase k _

theorem State.keepsLaws_stepMoveEnded (s : State) (k : SlotId) : s.KeepsLaws (s.stepMoveEnded k) := by
  unfold State.stepMoveEnded
  cases s.run k with
  | none => exact .refl s
  | some r =>
    dsimp only
    cases r.phase with
    | stepping => exact s.keepsLaws_beginHold k r
    | halting cause => exact s.keepsLaws_haltRun k _
    | holding deadline => exact .refl s

theorem State.keepsLaws_faultOnBound (s : State) (k : SlotId) (l : LineId) : s.KeepsLaws (s.faultOnBound k l) := by
  unfold State.faultOnBound
  cases s.run k with
  | none => exact .refl s
  | some r =>
    dsimp only
    cases r.phase with
    | stepping => exact s.keepsLaws_setPhase k _
    | halting cause => exact .refl s
    | holding deadline => exact s.keepsLaws_haltRun k _

end

end Sys2Proof.Machine

/-! PROOFS: the operations that keep the three laws, continued: grants and the scan, terms, the ends of moves, readback
faults, the disposition and the ends of sessions. -/

namespace Sys2Proof.Machine

/-! ### Grants and the pending list (chapter 4) -/

section
variable {s : State}

theorem heirUnless_ne (n : Port) (heir : Option Port) : heirUnless n heir ≠ some n := by
  unfold heirUnless
  split_ifs with same
  · simp
  · exact same

theorem Line.Coherent.of_readback {ln : Line} {r : Readback} (coherent : ln.Coherent) :
    ({ ln with readback := r } : Line).Coherent := coherent

theorem Line.Coherent.checkedIn {ln : Line} (coherent : ln.Coherent) (now : LineTime) : (ln.checkedIn now).Coherent := by
  rw [Line.checkedIn_eq]
  exact coherent.of_readback

/-- R27: a FREE line that is granted is coherent. -/
theorem Line.Coherent.granted {ln : Line} (coherent : ln.Coherent) (free : ln.state = .free) (n : Port)
    (term : Option Nat) (now : LineTime) : (ln.granted n term now).Coherent := by
  obtain ⟨move, -, prior, -, -, -, keeper⟩ := coherent
  have noMove : ¬ ln.move.isSome = true := fun moves => by
    obtain state | state := move.mp moves <;> simp [free] at state
  have holding : (ln.holding n term now).Coherent := by
    refine ⟨iff_of_false noMove (by simp [Line.holding]), by simp [Line.holding], prior, nofun, fun m held => ?_, ?_, keeper⟩
    · cases held
      exact heirUnless_ne n _
    · exact iff_of_true nofun (.inl rfl)
  exact holding.checkedIn now

theorem Line.granted_holder (ln : Line) (n : Port) (term : Option Nat) (now : LineTime) :
    (ln.granted n term now).holder = .agent n := by
  rw [Line.granted_eq, Line.checkedIn_holder]
  rfl

theorem Line.granted_binding (ln : Line) (n : Port) (term : Option Nat) (now : LineTime) :
    (ln.granted n term now).binding = ln.binding := by
  rw [Line.granted_eq, Line.checkedIn_binding]
  rfl

theorem State.allFree_iff {ls : List LineId} : s.allFree ls = true ↔ ∀ l ∈ ls, (s.line l).state = .free := by
  simp [State.allFree]

theorem State.assertion_grantLines (n : Port) (term : Option Nat) (ls : List LineId) :
    (s.grantLines n term ls).assertion = s.assertion := by
  funext l
  rw [State.assertion, State.line_grantLines]
  split_ifs
  · rw [Line.levels, Line.granted_move, Line.granted_drive]
    rfl
  · rfl

/-- R27: a grant of FREE lines keeps the laws of the records and the rules. -/
theorem State.keepsRecords_grantLines (n : Port) (term : Option Nat) {ls : List LineId}
    (started : s.partState ≠ .starting) (free : s.allFree ls = true) : s.KeepsRecords (s.grantLines n term ls) where
  coherent coherent := by
    refine coherent.rewrite (s.grantLines_same n term ls) fun l => ?_
    by_cases listed : l ∈ ls
    · have line := s.line_grantLines n term ls l
      rw [if_pos listed] at line
      have isFree := State.allFree_iff.mp free l listed
      refine .inr ⟨?_, ?_, fun k bound => ?_, .inl started⟩
      · rw [line]
        exact (coherent.line l).granted isFree n term _
      · rw [line, Line.granted_binding]
      · rw [coherent.unbound (.inl (coherent.holder_of_free isFree))] at bound
        cases bound
    · exact .inl ((s.line_grantLines n term ls l).trans (if_neg listed))
  rules coherent _ hold := by
    refine ⟨.of_started coherent started (by rw [(s.grantLines_same n term ls).loader]), ?_⟩
    exact hold.congr (State.assertion_grantLines n term ls) (s.interlocks_grantLines n term ls)

/-- R38: a grant to an agent with an open session keeps the law of the holders. -/
theorem State.HoldersOpen.grantLines (holders : s.HoldersOpen) {n : Port} (isOpen : s.isOpen n = true)
    (term : Option Nat) (ls : List LineId) : (s.grantLines n term ls).HoldersOpen := by
  have same := s.grantLines_same n term ls
  refine holders.of_fewer same.isOpen (fun l m held => ?_) fun e => by rw [same.pendingList]; exact id
  rw [State.line_grantLines] at held
  split_ifs at held
  · rw [Line.granted_holder, Holder.agent.injEq] at held
    exact .inr (held ▸ isOpen)
  · exact .inl held

theorem State.grantLines_held (s : State) (n : Port) (term : Option Nat) {ls : List LineId} {d : Drive} :
    ∀ e ∈ proposals ls d, ((s.grantLines n term ls).line e.1).holder ≠ .none := fun e listed => by
  rw [State.line_grantLines, if_pos (mem_proposals.mp listed).1, Line.granted_holder]
  exact nofun

/-- R81: an initial drive on lines that have holders. -/
theorem State.keepsLaws_applyInitial {e : Entry}
    (held : ∀ d, ∀ p ∈ proposals e.target.lines d, (s.line p.1).holder ≠ .none) :
    s.KeepsLaws (s.applyInitial e).1 := by
  unfold State.applyInitial
  cases e.drive with
  | none => exact .refl s
  | some d =>
    dsimp only
    cases driven : s.driveAll (proposals e.target.lines d) with
    | ok t => exact State.keepsLaws_driveAll _ driven (held d)
    | error refused => exact .refl s

/-- A change that only takes entries off the pending list. -/
theorem State.keepsLaws_fewerEntries (p : Entry → Bool) :
    s.KeepsLaws { s with pendingList := s.pendingList.filter p } where
  coherent := id
  rules _ floating hold := ⟨floating, hold⟩
  holders holders := ⟨holders.1, fun e listed => holders.2 e (List.mem_filter.mp listed).1⟩

theorem State.keepsLaws_removeEntry_setTicket (s : State) (n : Port) (k : TicketId) (x : Ticket) :
    s.KeepsLaws ((s.removeEntry n k).setTicket n k x) :=
  have removed : s.KeepsLaws (s.removeEntry n k) := State.keepsLaws_fewerEntries _
  removed.trans (State.keepsLaws_modifyNotices _ n _)

/-- R81: what follows the grant of an entry's lines. -/
theorem State.keepsLaws_grantEntry_rest (s : State) (e : Entry) :
    (s.grantLines e.agent e.term e.target.lines).KeepsLaws (s.grantEntry e) :=
  (State.keepsLaws_applyInitial fun _ => s.grantLines_held e.agent e.term).trans
    (State.keepsLaws_removeEntry_setTicket _ _ _ _)

theorem State.keepsRecords_grantEntry {e : Entry} (started : s.partState ≠ .starting)
    (free : s.allFree e.target.lines = true) : s.KeepsRecords (s.grantEntry e) :=
  (State.keepsRecords_grantLines e.agent e.term started free).trans (s.keepsLaws_grantEntry_rest e).toKeepsRecords

/-- R80: what holds of the state and is kept by each grant of an entry holds after a scan. -/
theorem State.scanEntries_keeps {holds : State → Prop} {es : List Entry}
    (keeps : ∀ e ∈ es, ∀ u : State, holds u → u.allFree e.target.lines = true → holds (u.grantEntry e)) {s : State}
    (start : holds s) : holds (State.scanEntries es s) := by
  induction es generalizing s with
  | nil => exact start
  | cons e es ih =>
    rw [State.scanEntries]
    refine ih (fun f listed => keeps f (List.mem_cons_of_mem e listed)) ?_
    split_ifs with free
    · exact keeps e List.mem_cons_self s start free
    · exact start

theorem State.loader_grantEntry (s : State) (e : Entry) : (s.grantEntry e).loader = s.loader := by
  have lines := (s.grantLines_same e.agent e.term e.target.lines).trans (State.applyInitial_same _ e)
  exact lines.loader

theorem State.isOpen_grantEntry (s : State) (e : Entry) (n : Port) : (s.grantEntry e).isOpen n = s.isOpen n := by
  have lines := (s.grantLines_same e.agent e.term e.target.lines).trans (State.applyInitial_same _ e)
  exact (State.isOpen_modifyLive _ _ n _).trans (lines.isOpen n)

/-- R80, R81: the scan, which a line's arrival at FREE prompts past STARTING. -/
theorem State.keepsRecords_scan (s : State) (started : s.partState ≠ .starting) : s.KeepsRecords s.scan where
  coherent coherent :=
    have ⟨kept, _⟩ := State.scanEntries_keeps (holds := fun u => u.Coherent ∧ u.partState ≠ .starting) (es := s.pendingList)
      (fun e _ u ⟨coherent, started⟩ free => ⟨(State.keepsRecords_grantEntry started free).coherent coherent, by
        rwa [State.partState, u.loader_grantEntry]⟩) ⟨coherent, started⟩
    kept
  rules coherent floating hold :=
    have ⟨_, _, kept⟩ := State.scanEntries_keeps (es := s.pendingList)
      (holds := fun u => u.Coherent ∧ u.partState ≠ .starting ∧ u.StartFloating ∧ u.RulesHold)
      (fun e _ u ⟨coherent, started, floating, hold⟩ free =>
        have keeps := State.keepsRecords_grantEntry (e := e) started free
        ⟨keeps.coherent coherent, by rwa [State.partState, u.loader_grantEntry], keeps.rules coherent floating hold⟩)
      ⟨coherent, started, floating, hold⟩
    kept

/-- R80, R87: the scan grants to agents whose sessions are open. -/
theorem State.HoldersOpen.scan (holders : s.HoldersOpen) : s.scan.HoldersOpen :=
  have ⟨kept, _⟩ := State.scanEntries_keeps (es := s.pendingList)
    (holds := fun u => u.HoldersOpen ∧ ∀ n, u.isOpen n = s.isOpen n)
    (fun e listed u ⟨holders', opens⟩ _ =>
      have isOpen := (opens e.agent).trans (holders.2 e listed)
      ⟨(u.keepsLaws_grantEntry_rest e).holders (holders'.grantLines isOpen e.term _), fun n =>
        (u.isOpen_grantEntry e n).trans (opens n)⟩)
    ⟨holders, fun _ => rfl⟩
  kept

end

/-! ### Terms and the ends of moves (R7, R25, R26, R36) -/

section
variable {s : State} {l : LineId}

/-- The line's move is over, or its first stage is, and the table is settled. -/
theorem State.LineChange.settled (s : State) (l : LineId) (f : Line → Line) :
    s.LineChange (s.modifyLine l f).settleReserved l := (modifyLine s l f).trans (.settleReserved _ l)

theorem State.line_settled (s : State) (l : LineId) (f : Line → Line) :
    (s.modifyLine l f).settleReserved.line l = f (s.line l) := by
  rw [State.line_settleReserved, State.line_modifyLine_self]

/-- R36: a line bound to no run, and past STARTING, is released as its term ends. -/
theorem State.keepsLaws_expire (unbound : s.Coherent → (s.line l).binding = none)
    (started : s.Coherent → s.partState ≠ .starting) : s.KeepsLaws (s.expire l) := by
  have released := State.keepsLaws_beginRelease (target := s.releaseTarget l) .termEnded unbound started
    State.releaseTarget_admitted
  unfold State.expire
  cases (s.line l).holder with
  | agent n => exact released.trans (State.keepsLaws_modifyNotices _ n _)
  | profile => exact released
  | none => exact released

theorem State.isOpen_congr {s t : State} (sessions : t.sessions = s.sessions) (n : Port) : t.isOpen n = s.isOpen n := by
  rw [State.isOpen, State.live, State.session, sessions]
  rfl

/-- A line of a coherent state rewritten with no move, its drive kept and its state FREE or HELD as given. -/
theorem State.keepsLaws_moveOver {t : State} {m : Move} (move : (s.line l).move = some m) (change : s.LineChange t l)
    (own : (s.line l).Coherent → (t.line l).Coherent) (binding : (t.line l).binding = (s.line l).binding)
    (term : (t.line l).term = (s.line l).term) (holder : (t.line l).holder = (s.line l).holder)
    (rules : s.RulesHold → t.RulesHold) : s.KeepsLaws t := by
  have started (coherent : s.Coherent) : s.partState ≠ .starting := by
    obtain ⟨moves, -⟩ := coherent.line l
    refine coherent.started (l := l) fun free => ?_
    obtain state | state := moves.mp (by rw [move, Option.isSome_some]) <;> simp [free] at state
  refine .of_lineChange change (fun coherent => ⟨own (coherent.line l), binding, fun k bound => ?_, .inl (started coherent)⟩)
    (fun n held => .inl (holder ▸ held)) (fun coherent => .inl (started coherent)) rules
  rw [term, holder]
  exact ⟨(coherent.of_binding bound).1, rfl⟩

/-- R25: a MOVING line whose move is over is coherent once HELD. -/
theorem Line.Coherent.moveEnded {ln : Line} (coherent : ln.Coherent) (moving : ln.state = .moving)
    (notDue : ln.termDue = false) : ({ ln with state := .held, move := none } : Line).Coherent := by
  obtain ⟨-, free, prior, -, heir, holder, keeper⟩ := coherent
  have notFree : ¬ ln.freeReason.isSome = true := fun reason => by
    obtain state | state := free.mp reason <;> simp [moving] at state
  refine ⟨by simp, iff_of_false notFree (by simp), prior, fun due => ?_, heir, ?_, keeper⟩
  · simp [notDue] at due
  · exact iff_of_true (holder.mpr (.inr moving)) (.inl rfl)

/-- R26: a RELEASING line whose move is over is coherent once FREE. -/
theorem Line.Coherent.releaseEnded {ln : Line} (coherent : ln.Coherent) (releasing : ln.state = .releasing) :
    ({ ln with state := .free, move := none } : Line).Coherent := by
  obtain ⟨-, free, prior, due, heir, holder, keeper⟩ := coherent
  refine ⟨by simp, iff_of_true (free.mpr (.inr releasing)) (.inl rfl), prior, fun isDue => ?_, heir, ?_, keeper⟩
  · have moving := (due isDue).1
    simp [releasing] at moving
  · refine iff_of_false (fun held => ?_) (by simp)
    obtain state | state := holder.mp held <;> simp [releasing] at state

theorem Line.Coherent.commanded {ln : Line} (coherent : ln.Coherent) (d : Drive) (now : LineTime) :
    (ln.commanded d now).Coherent := by
  obtain ⟨move, free, prior, due, heir, holder, keeper⟩ := coherent
  exact ⟨move, free, prior, due, heir, holder, Line.commanded_keeper d now keeper⟩

theorem State.line_secondStage (m : Move) : (s.secondStage l m).line l =
    { (s.line l).commanded m.stages.target s.lineTime with
      move := some { m with index := .second, origin := none,
                            deadline := s.lineTime + BitVec.ofNat 32 (s.line l).static.settle } } := by
  rw [State.secondStage, State.line_settled, Line.command_eq_commanded]
  rfl

/-- R7: the second stage asserts the target, which the first asserted with the drive that it had. -/
theorem State.keepsLaws_secondStage {m : Move} (move : (s.line l).move = some m) : s.KeepsLaws (s.secondStage l m) := by
  have line := State.line_secondStage (s := s) (l := l) m
  refine State.keepsLaws_moveOver move (.settled s l _) (fun coherent => ?_) (by rw [line]; rfl) (by rw [line]; rfl)
    (by rw [line]; rfl) fun rules => rules.settled ?_
  · rw [line]
    obtain ⟨moves, free, prior, due, heir, holder, keeper⟩ := coherent.commanded m.stages.target s.lineTime
    exact ⟨iff_of_true rfl (moves.mp (congrArg Option.isSome move)), free, prior, due, heir, holder, keeper⟩
  · have target : m.stages.target.levels.Within (s.line l).levels := by
      rw [Line.levels, move]
      exact (Levels.within_union_right _ _).trans (Levels.within_union_left _ _)
    exact Levels.union_within (Levels.union_within target target) (Levels.empty_within _)

/-- R7: a line whose move is removed at the end of its last stage. -/
def State.moveRemoved (s : State) (l : LineId) : State :=
  (s.modifyLine l fun ln => { ln with move := none }).settleReserved

theorem State.LineChange.moveRemoved (s : State) (l : LineId) : s.LineChange (s.moveRemoved l) l := .settled s l _

theorem State.line_moveRemoved (s : State) (l : LineId) : (s.moveRemoved l).line l = { s.line l with move := none } :=
  s.line_settled l _

/-- R9, R51: a line without its move asserts its drive alone. -/
theorem State.RulesHold.moveRemoved (rules : s.RulesHold) (l : LineId) : (s.moveRemoved l).RulesHold :=
  rules.settled (Line.drive_levels_within (s.line l))

/-- R26: the line whose release move is over becomes FREE. -/
theorem State.keepsLaws_becomeFree {m : Move} (move : (s.line l).move = some m) (releasing : (s.line l).state = .releasing) :
    s.KeepsLaws ((s.moveRemoved l).modifyLine l fun ln => { ln with state := .free }) := by
  have line : ((s.moveRemoved l).modifyLine l fun ln => { ln with state := .free }).line l =
      { s.line l with state := .free, move := none } := by rw [State.line_modifyLine_self, State.line_moveRemoved]
  refine State.keepsLaws_moveOver move ((State.LineChange.moveRemoved s l).trans (.modifyLine _ l _))
    (fun coherent => ?_) (by rw [line]) (by rw [line]) (by rw [line]) fun rules => ?_
  · rw [line]
    exact coherent.releaseEnded releasing
  · refine (rules.moveRemoved l).congr ((State.LineChange.modifyLine _ l _).assertion ?_) rfl
    rw [State.line_modifyLine_self]
    rfl

/-- R25: the line whose ordinary move is over, and whose term is not due, is HELD. -/
theorem State.keepsLaws_becomeHeld {m : Move} (move : (s.line l).move = some m) (moving : (s.line l).state = .moving)
    (notDue : (s.line l).termDue = false) :
    s.KeepsLaws ((s.moveRemoved l).modifyLine l fun ln => { ln with state := .held }) := by
  have line : ((s.moveRemoved l).modifyLine l fun ln => { ln with state := .held }).line l =
      { s.line l with state := .held, move := none } := by rw [State.line_modifyLine_self, State.line_moveRemoved]
  refine State.keepsLaws_moveOver move ((State.LineChange.moveRemoved s l).trans (.modifyLine _ l _))
    (fun coherent => ?_) (by rw [line]) (by rw [line]) (by rw [line]) fun rules => ?_
  · rw [line]
    exact coherent.moveEnded moving notDue
  · refine (rules.moveRemoved l).congr ((State.LineChange.modifyLine _ l _).assertion ?_) rfl
    rw [State.line_modifyLine_self]
    rfl

/-- R24: a line under a move tells that the part is past STARTING. -/
theorem State.Coherent.started_of_move {m : Move} (coherent : s.Coherent) (move : (s.line l).move = some m) :
    s.partState ≠ .starting := by
  obtain ⟨moves, -⟩ := coherent.line l
  refine coherent.started (l := l) fun free => ?_
  obtain state | state := moves.mp (by rw [move, Option.isSome_some]) <;> simp [free] at state

/-- R36: a line whose move is over with its term due is released. -/
theorem State.keepsLaws_expireMoved {m : Move} (move : (s.line l).move = some m) (due : (s.line l).termDue = true) :
    s.KeepsLaws ((s.moveRemoved l).expire l) := by
  have released : s.KeepsLaws ((s.moveRemoved l).beginRelease l .termEnded ((s.moveRemoved l).releaseTarget l)) := by
    have line := (s.moveRemoved l).line_beginRelease l .termEnded ((s.moveRemoved l).releaseTarget l)
    rw [State.line_moveRemoved] at line
    have change := (State.LineChange.moveRemoved s l).trans
      (.beginRelease (s.moveRemoved l) l .termEnded ((s.moveRemoved l).releaseTarget l))
    refine .of_lineChange change (fun coherent => ?_) (fun n held => ?_)
      (fun coherent => .inl (coherent.started_of_move move)) fun rules => ?_
    · have term : (s.line l).term.isSome = true := by
        obtain ⟨-, -, -, dueMeans, -⟩ := coherent.line l
        exact (dueMeans due).2
      exact coherent.rewrites_released line (coherent.unbound (.inr term)) (coherent.started_of_move move)
    · rw [line] at held
      cases held
    · have removed := rules.moveRemoved l
      exact State.rulesHold_beginRelease removed .termEnded (State.releaseTarget_admitted removed)
  unfold State.expire
  cases ((s.moveRemoved l).line l).holder with
  | agent n => exact released.trans (State.keepsLaws_modifyNotices _ n _)
  | profile => exact released
  | none => exact released

/-- R7, R25, R26: the last stage of a move ends. -/
theorem State.keepsLaws_lastStage {m : Move} (move : (s.line l).move = some m) :
    s.KeepsLaws ((s.moveRemoved l).completeMove l) := by
  have line := s.line_moveRemoved l
  have change := State.LineChange.moveRemoved s l
  have state : ((s.moveRemoved l).line l).state = (s.line l).state := by rw [line]
  have due : ((s.moveRemoved l).line l).termDue = (s.line l).termDue := by rw [line]
  have stays (neither : ¬ ((s.line l).state = .moving ∨ (s.line l).state = .releasing)) : s.KeepsLaws (s.moveRemoved l) := by
    have loose (coherent : s.Coherent) : False := by
      obtain ⟨moves, -⟩ := coherent.line l
      exact neither (moves.mp (by rw [move, Option.isSome_some]))
    refine .of_lineChange change (fun coherent => (loose coherent).elim) (fun n held => .inl ?_)
      (fun coherent => (loose coherent).elim) fun rules => rules.moveRemoved l
    rwa [line] at held
  rw [State.completeMove, state, due]
  cases ended : (s.line l).state with
  | free => exact stays (by simp [ended])
  | held => exact stays (by simp [ended])
  | releasing =>
    have freed := State.keepsLaws_becomeFree move ended
    refine ⟨freed.toKeepsRecords.trans_of fun coherent => State.keepsRecords_scan _ ?_, fun holders => (freed.holders holders).scan⟩
    have part : ((s.moveRemoved l).modifyLine l fun ln => { ln with state := .free }).partState = s.partState :=
      change.same.partState
    rw [part]
    exact coherent.started_of_move move
  | moving =>
    dsimp only
    cases isDue : (s.line l).termDue with
    | true => exact State.keepsLaws_expireMoved move isDue
    | false =>
      have held := (State.keepsLaws_becomeHeld move ended isDue).trans (State.keepsLaws_enterChecked _ l)
      rw [if_neg nofun]
      split
      · exact held
      · exact held.trans (State.keepsLaws_stepMoveEnded _ _)

theorem State.keepsLaws_endStage {m : Move} (move : (s.line l).move = some m) : s.KeepsLaws (s.endStage l m) := by
  unfold State.endStage
  split
  · exact State.keepsLaws_secondStage move
  · exact State.keepsLaws_lastStage move
  · exact State.keepsLaws_lastStage move

/-! ### Readback faults and term deadlines (R14, R15, R35) -/

theorem State.line_faultLine (s : State) (l : LineId) : (s.faultLine l).line l =
    { (s.line l).commanded .float s.lineTime with
      priorDrive := some (s.line l).drive, fault := .readback, readback := .off } := by
  rw [State.faultLine, State.line_settled, Line.command_eq_commanded]

/-- R14: the pad goes to FLOAT, which asserts nothing. -/
theorem State.keepsLaws_faultLine (s : State) (l : LineId) : s.KeepsLaws (s.faultLine l) := by
  have line := s.line_faultLine l
  refine .of_lineChange (.settled s l _) (fun coherent => ⟨?_, by rw [line]; rfl, fun k bound => ?_, ?_⟩) (fun n held => .inl ?_)
    (fun _ => .inr (.inr (by rw [line]; rfl))) fun rules => rules.settled ?_
  · rw [line]
    obtain ⟨move, free, -, due, heir, holder, keeper⟩ := (coherent.line l).commanded .float s.lineTime
    exact ⟨move, free, iff_of_true rfl rfl, due, heir, holder, keeper⟩
  · rw [line]
    exact ⟨(coherent.of_binding bound).1, rfl⟩
  · by_cases part : s.partState = .starting
    · rw [line]
      exact .inr ((coherent.2.2.2 part).1 l)
    · exact .inl part
  · rwa [line] at held
  · rw [Line.levels, Line.levels]
    cases move : (s.line l).move with
    | none =>
      simp only [Line.command, move]
      exact Levels.empty_within _
    | some m =>
      simp only [Line.command, move]
      exact Levels.union_within (Levels.union_within (Levels.empty_within _)
        ((Levels.within_union_right _ _).trans (Levels.within_union_left _ _))) (Levels.within_union_right _ _)

theorem State.keepsLaws_fireReadback (s : State) (l : LineId) : s.KeepsLaws (s.fireReadback l) := by
  have told (u : State) : u.KeepsLaws (u.tellHolder l) := by
    unfold State.tellHolder
    cases (u.line l).holder with
    | agent n => exact u.keepsLaws_modifyNotices n _
    | profile => exact .refl u
    | none => exact .refl u
  have passed (u : State) : u.KeepsLaws (u.tellSequencer l) := by
    unfold State.tellSequencer
    cases (u.line l).binding with
    | none => exact .refl u
    | some k => exact u.keepsLaws_faultOnBound k l
  exact ((s.keepsLaws_faultLine l).trans (told _)).trans (passed _)

/-- A record of a line whose bound record would stay as it is may be rewritten in its other fields. -/
theorem State.keepsLaws_modifyLine {f : Line → Line} (own : (s.line l).Coherent → (f (s.line l)).Coherent)
    (binding : (f (s.line l)).binding = (s.line l).binding)
    (bound : ∀ k, (s.line l).binding = some k → (s.line l).term = none → (f (s.line l)).term = none)
    (state : (f (s.line l)).state = (s.line l).state) (holder : (f (s.line l)).holder = (s.line l).holder)
    (drive : (f (s.line l)).drive = (s.line l).drive) (move : (f (s.line l)).move = (s.line l).move) :
    s.KeepsLaws (s.modifyLine l f) := by
  have line := s.line_modifyLine_self l f
  refine .of_lineChange (.modifyLine s l f) (fun coherent => ⟨?_, by rw [line, binding], fun k isBound => ?_, ?_⟩)
    (fun n held => .inl ?_) (fun _ => .inr (.inl (by rw [line, drive])))
    fun rules => rules.congr ((State.LineChange.modifyLine s l f).assertion ?_) rfl
  · rw [line]
    exact own (coherent.line l)
  · rw [line, holder]
    exact ⟨bound k isBound (coherent.of_binding isBound).1, rfl⟩
  · by_cases part : s.partState = .starting
    · rw [line, state]
      exact .inr ((coherent.2.2.2 part).1 l)
    · exact .inl part
  · rwa [line, holder] at held
  · rw [line, Line.levels, Line.levels, drive, move]

/-- R35: the term deadline of a line that has a term. -/
theorem State.keepsLaws_reachTerm (s : State) (l : LineId) (term : (s.line l).term.isSome = true) :
    s.KeepsLaws (s.reachTerm l) := by
  unfold State.reachTerm
  cases state : (s.line l).state with
  | held =>
    exact State.keepsLaws_expire (fun coherent => coherent.unbound (.inr term))
      fun coherent => coherent.started (l := l) (by simp [state])
  | moving =>
    refine State.keepsLaws_modifyLine (fun ⟨moves, free, prior, _, heir, holder, keeper⟩ => ?_) rfl (fun _ _ => id) rfl rfl
      rfl rfl
    exact ⟨moves, free, prior, fun _ => ⟨state, term⟩, heir, holder, keeper⟩
  | free => exact .refl s
  | releasing => exact .refl s

end

/-! ### The loss of a holder (R38 to R40) -/

section
variable {s : State} {l : LineId}

theorem State.keepsLaws_haltLost (s : State) (l : LineId) : s.KeepsLaws (s.haltLost l) := by
  unfold State.haltLost
  cases (s.line l).binding with
  | none => exact .refl s
  | some k => exact s.keepsLaws_dropRun k

/-- R39: a line as its heir has it is coherent. -/
theorem Line.Coherent.inheritedBy {ln : Line} (coherent : ln.Coherent) (held : ln.holder ≠ .none) (heir : Port) :
    ({ ln with move := none } : Line).inheritedBy heir |>.Coherent := by
  have busy := coherent.busy held
  obtain ⟨-, free, prior, -, -, -, keeper⟩ := coherent
  have notFree : ¬ ln.freeReason.isSome = true := fun reason => by
    obtain state | state := free.mp reason <;> simp [state] at busy
  exact ⟨by simp [Line.inheritedBy], iff_of_false notFree (by simp [Line.inheritedBy]), prior, nofun, nofun,
    iff_of_true nofun (.inl rfl), keeper⟩

/-- R39: an eligible heir, whose session is open, inherits a line bound to no run. -/
theorem State.keepsLaws_inherit (lost heir : Port) (wasMoving : Bool) (held : (s.line l).holder ≠ .none)
    (unbound : (s.line l).binding = none) (isOpen : s.isOpen heir = true) :
    s.KeepsLaws ((s.abandon l).inherit_ lost heir l wasMoving) := by
  have line : ((s.abandon l).modifyLine l (·.inheritedBy heir)).line l =
      ({ s.line l with move := none } : Line).inheritedBy heir := by
    rw [State.line_modifyLine_self, State.line_abandon_self]
  have inherited : s.KeepsLaws ((s.abandon l).modifyLine l (·.inheritedBy heir)) := by
    refine .of_lineChange ((State.LineChange.abandon s l).trans (.modifyLine _ l _))
      (fun coherent => ⟨?_, ?_, fun k bound => ?_, .inl (coherent.started_of_held held)⟩) (fun n own => .inr ?_)
      (fun coherent => .inl (coherent.started_of_held held)) fun rules => ?_
    · rw [line]
      exact (coherent.line l).inheritedBy held heir
    · rw [line]
      rfl
    · rw [unbound] at bound
      cases bound
    · rw [line] at own
      exact Holder.agent.inj own ▸ isOpen
    · refine (State.rulesHold_abandon rules).congr ((State.LineChange.modifyLine _ l _).assertion ?_) rfl
      rw [State.line_modifyLine_self]
      rfl
  have checked : s.KeepsLaws ((s.abandon l).inheritLine heir l wasMoving) := by
    unfold State.inheritLine
    cases wasMoving with
    | false => exact inherited
    | true => exact inherited.trans (State.keepsLaws_enterChecked _ l)
  rw [State.inherit_eq]
  exact checked.trans (State.keepsLaws_modifyNotices _ heir _)

/-- R40: a line bound to no run is parked. -/
theorem State.keepsLaws_park (held : (s.line l).holder ≠ .none) (unbound : (s.line l).binding = none) :
    s.KeepsLaws ((s.abandon l).park l) := by
  have line := State.line_park (s.abandon l) l
  rw [State.line_abandon_self] at line
  refine .of_lineChange ((State.LineChange.abandon s l).trans (.beginRelease _ l _ _))
    (fun coherent => coherent.rewrites_released line unbound (coherent.started_of_held held)) (fun n own => ?_)
    (fun coherent => .inl (coherent.started_of_held held)) fun rules => ?_
  · rw [line] at own
    cases own
  · have abandoned := State.rulesHold_abandon (l := l) rules
    exact State.rulesHold_beginRelease abandoned .lost (State.fallbackOrFloat_admitted abandoned)

/-- R38: one line of the disposition. -/
theorem State.keepsLaws_dispose (s : State) (lost : Port) (l : LineId) : s.KeepsLaws (State.dispose lost l s) := by
  by_cases own : (s.line l).holder = .agent lost
  · have halted := s.keepsLaws_haltLost l
    have line := State.line_haltLost s l
    have held : ((s.haltLost l).line l).holder ≠ .none := by
      rw [line, own]
      exact nofun
    have unbound : ((s.haltLost l).line l).binding = none := by rw [line]
    cases eligible : ((s.haltLost l).abandon l).eligibleHeir lost l with
    | some heir =>
      rw [State.dispose_of_heir own eligible]
      obtain ⟨-, -, isOpen⟩ := State.eligibleHeir_eq_some_iff.mp eligible
      rw [(State.abandon_same (s.haltLost l) l).isOpen] at isOpen
      exact halted.trans (State.keepsLaws_inherit lost heir _ held unbound isOpen)
    | none =>
      rw [State.dispose_of_noHeir own eligible]
      exact halted.trans (State.keepsLaws_park held unbound)
  · rw [State.dispose_of_other own]
    exact .refl s

theorem State.keepsLaws_disposeAll (s : State) (lost : Port) : s.KeepsLaws (s.disposeAll lost) :=
  .forLines (fun l u => u.keepsLaws_dispose lost l) allLines s

/-! ### The ends and the openings of sessions (R98, R105) -/

theorem State.holder_haltLost (s : State) (l m : LineId) : ((s.haltLost l).line m).holder = (s.line m).holder := by
  unfold State.haltLost
  cases (s.line l).binding with
  | none => rfl
  | some k =>
    dsimp only
    rw [State.line_dropRun]

/-- R38: the disposition of one line leaves the holders of the others, and takes its own from the agent that is lost. -/
theorem State.holder_dispose (s : State) (lost : Port) (l : LineId) :
    ((State.dispose lost l s).line l).holder ≠ .agent lost ∧
      ∀ m, m ≠ l → ((State.dispose lost l s).line m).holder = (s.line m).holder := by
  by_cases own : (s.line l).holder = .agent lost
  · have others {t : State} (change : ((s.haltLost l).abandon l).LineChange t l) (m : LineId) (other : m ≠ l) :
        (t.line m).holder = (s.line m).holder := by
      rw [((State.LineChange.abandon (s.haltLost l) l).trans change).others m other, State.holder_haltLost]
    cases eligible : ((s.haltLost l).abandon l).eligibleHeir lost l with
    | some heir =>
      rw [State.dispose_of_heir own eligible, State.inherit_eq]
      obtain ⟨-, notLost, -⟩ := State.eligibleHeir_eq_some_iff.mp eligible
      refine ⟨fun still => ?_, fun m other => others (.inheritLine _ heir l _) m other⟩
      have line := State.line_inheritLine ((s.haltLost l).abandon l) heir l (decide ((s.line l).state = .moving))
      change ((((s.haltLost l).abandon l).inheritLine heir l _).line l).holder = _ at still
      rw [line] at still
      split_ifs at still
      · rw [Line.checkedIn_holder] at still
        exact notLost (Holder.agent.inj still)
      · exact notLost (Holder.agent.inj still)
    | none =>
      rw [State.dispose_of_noHeir own eligible]
      refine ⟨?_, others (.beginRelease _ l _ _)⟩
      rw [State.line_park]
      exact nofun
  · rw [State.dispose_of_other own]
    exact ⟨own, fun _ _ => rfl⟩

/-- R38: the agent that is lost holds no line after the disposition. -/
theorem State.holder_disposeAll (s : State) (lost : Port) (l : LineId) :
    ((s.disposeAll lost).line l).holder ≠ .agent lost := by
  refine State.forLines_allLines (reached := fun k u => ∀ m : LineId, m.val < k → (u.line m).holder ≠ .agent lost)
    (fun l u below m upTo => ?_) (fun _ below => absurd below (Nat.not_lt_zero _)) l l.isLt
  obtain ⟨taken, others⟩ := u.holder_dispose lost l
  by_cases same : m = l
  · rw [same]
    exact taken
  · rw [others m same]
    exact below m ((Nat.lt_succ_iff_lt_or_eq.mp upTo).resolve_right fun e => same (Fin.ext e))

theorem State.keepsLaws_tellLoss (s : State) (lost : Port) (cause : EndCause) : s.KeepsLaws (s.tellLoss lost cause) :=
  .foldl (op := State.tellPort lost cause) (fun u m => by
    unfold State.tellPort
    split_ifs
    · exact u.keepsLaws_modifyNotices m _
    · exact .refl u) _ s

/-- R105: the record of a session whose agent holds no line and waits for none is closed. -/
theorem State.keepsLaws_closeRecord {s : State} {n : Port} (cause : EndCause) (noLine : ∀ l, (s.line l).holder ≠ .agent n)
    (noEntry : ∀ e ∈ s.pendingList, e.agent ≠ n) : s.KeepsLaws (s.closeRecord n cause) where
  coherent coherent := coherent.congr rfl rfl rfl rfl rfl
  rules _ floating hold := ⟨floating, hold⟩
  holders := fun ⟨lines, entries⟩ => by
    have opens (m : Port) (other : m ≠ n) : (s.closeRecord n cause).isOpen m = s.isOpen m := by
      have closed := State.isOpen_setSession s n { s.session n with lastEnd := cause, live := none } m
      rw [if_neg other] at closed
      exact closed
    refine ⟨fun l m held => ?_, fun e listed => ?_⟩
    · rw [opens m fun same => noLine l (same ▸ held)]
      exact lines l m held
    · rw [opens e.agent (noEntry e listed)]
      exact entries e listed

/-- R87, R144: the claims of the agent are dropped, and its wake watches activated. -/
theorem State.keepsLaws_ending (d : State) (n : Port) : d.KeepsLaws (d.ending n) := by
  have dropped : d.KeepsLaws (d.dropEntries n) := State.keepsLaws_fewerEntries fun e => decide (e.agent ≠ n)
  have activated : (d.dropEntries n).KeepsLaws ((d.dropEntries n).activateWakes n) := .of_same rfl rfl
  exact dropped.trans activated

/-- R105: the end of a session: its lines are disposed of and its claims dropped before its record is closed. -/
theorem State.keepsLaws_endSession (s : State) (n : Port) (cause : EndCause) : s.KeepsLaws (s.endSession n cause) := by
  by_cases isOpen : s.isOpen n = true
  · rw [State.endSession_of_open isOpen]
    have dropped := (s.disposeAll n).keepsLaws_ending n
    have told := State.keepsLaws_tellLoss ((s.disposeAll n).ending n) n cause
    have same := State.tellLoss_same ((s.disposeAll n).ending n) n cause
    refine (((s.keepsLaws_disposeAll n).trans dropped).trans told).trans (State.keepsLaws_closeRecord cause (fun l => ?_) ?_)
    · rw [State.line, same.lines, State.ending_lines]
      exact s.holder_disposeAll n l
    · rw [same.pendingList, State.ending_pendingList]
      exact fun e listed => of_decide_eq_true (List.mem_filter.mp listed).2
  · rw [State.endSession, if_neg isOpen]
    exact .refl s

/-- R98: a session that opens leaves the others as open as they were. -/
theorem State.keepsLaws_openRecord (s : State) (n : Port) (period limit : Nat) (mask : AttentionMask) :
    s.KeepsLaws (s.openRecord n period limit mask) where
  coherent coherent := coherent.congr rfl rfl rfl rfl rfl
  rules _ floating hold := ⟨floating, hold⟩
  holders := fun ⟨lines, entries⟩ => by
    have opens (m : Port) (isOpen : s.isOpen m = true) : (s.openRecord n period limit mask).isOpen m = true := by
      refine (State.isOpen_setSession s n _ m).trans ?_
      split_ifs
      · rfl
      · exact isOpen
    exact ⟨fun l m held => opens m (lines l m held), fun e listed => opens e.agent (entries e listed)⟩

end

end Sys2Proof.Machine

/-! PROOFS: the ends of loads, restart and reset: what each writes into the lines, and that each keeps the three laws.
The rules of an image hold at start-up, for its fallbacks match none of them; the rules after a restart hold because the
table is rebuilt by what is then asserted. -/

namespace Sys2Proof.Machine

/-! ### The image that a load selects (R150, R152) -/

/-- A check that fails gives its reason, so a result that is no reason comes from what follows it. -/
theorem ok_of_check {c : Prop} [Decidable c] {reason : ImageFault} {rest : Except ImageFault Image} {x : Image}
    (passes : (if c then .error reason else rest) = .ok x) : ¬ c ∧ rest = .ok x := by
  by_cases fails : c
  · rw [if_pos fails] at passes
    exact nomatch passes
  · rw [if_neg fails] at passes
    exact ⟨fails, passes⟩

theorem checkParts_fallbacksAdmitted {mode : CheckMode} {h : RawHeader} {body : List Byte} {x : Image}
    (passes : checkParts mode h body = .ok x) : x.fallbacksAdmitted = true := by
  rw [checkParts] at passes
  obtain ⟨-, passes⟩ := ok_of_check passes
  obtain ⟨-, passes⟩ := ok_of_check passes
  obtain ⟨-, passes⟩ := ok_of_check passes
  cases body? : readBody body with
  | none =>
    rw [body?] at passes
    exact nomatch passes
  | some raw =>
    rw [body?] at passes
    obtain ⟨-, passes⟩ := ok_of_check passes
    obtain ⟨-, passes⟩ := ok_of_check passes
    obtain ⟨-, passes⟩ := ok_of_check passes
    obtain ⟨-, passes⟩ := ok_of_check passes
    obtain ⟨-, passes⟩ := ok_of_check passes
    obtain ⟨-, passes⟩ := ok_of_check passes
    obtain ⟨admitted, passes⟩ := ok_of_check passes
    obtain ⟨-, passes⟩ := ok_of_check passes
    rw [← Except.ok.inj passes]
    exact eq_true_of_ne_false admitted

/-- R62, R150: the fallbacks of an image that passes the checks match none of its rules. -/
theorem checkImage_fallbacksAdmitted {mode : CheckMode} {rd : Nat → Byte} {x : Image}
    (passes : checkImage mode rd = .ok x) : x.fallbacksAdmitted = true := checkParts_fallbacksAdmitted passes

theorem State.checkSlot_of_select {s : State} {slot : FlashSlot} {generation : BitVec 32} {x : Image}
    (selected : s.selectSlot = some (slot, generation, x)) :
    s.checkSlot slot = .ok x ∧ generation = s.slotGeneration slot := by
  unfold State.selectSlot at selected
  dsimp only at selected
  split at selected
  · split_ifs at selected
    all_goals
      cases selected
      exact ⟨‹_›, rfl⟩
  · cases selected
    exact ⟨‹_›, rfl⟩
  · cases selected
    exact ⟨‹_›, rfl⟩
  · cases selected

/-! ### The lines at start-up and at the end of a restart's load (R46, R48, R64) -/

/-- R46: a line at start-up. -/
def Line.startedUp (ln : Line) (now : LineTime) : Line :=
  if ln.static.pinned then (ln.profileHeld.checkedIn now).driven ln.static.fallback now
  else ln.released .start ln.static.fallback now

/-- R48: a pinned line at the end of a restart's load. -/
def Line.pinnedAgain (ln : Line) (now : LineTime) : Line :=
  if ln.static.pinned then (ln.profileHeld.checkedIn now).driven ln.static.fallback now else ln

/-- R22, R48: a line with no holder that is moved to FLOAT. -/
def Line.floated (ln : Line) (now : LineTime) : Line :=
  { ln.moving .release .float now with state := .releasing, freeReason := some .restart }

section
variable (s : State)

/-- R46: one line of the start-up. -/
def State.startUpLine (l : LineId) (s : State) : State :=
  if (s.line l).static.pinned then s.pinLine l else s.startLine l

theorem State.startUpLine_change (l : LineId) : s.LineChange (State.startUpLine l s) l := by
  unfold State.startUpLine
  split_ifs
  · exact .pinLine s l
  · exact .beginRelease s l _ _

theorem State.line_startUpLine (l : LineId) : (State.startUpLine l s).line l = (s.line l).startedUp s.lineTime := by
  unfold State.startUpLine Line.startedUp
  split_ifs
  · exact s.line_pinLine l
  · exact s.line_beginRelease l _ _

theorem State.interlocks_pinLine {l : LineId} (noMove : (s.line l).move = none) :
    (State.pinLine l s).interlocks = s.interlocks := by
  have noMoveYet : (((s.modifyLine l Line.profileHeld).enterChecked l).line l).move = none := by
    rw [State.line_enterChecked, State.line_modifyLine_self, Line.checkedIn_move]
    exact noMove
  exact (State.interlocks_driveTo_of_noMove _ l noMoveYet).trans (State.interlocks_enterChecked _ l)

theorem State.interlocks_startUpLine {l : LineId} (noMove : (s.line l).move = none) :
    (State.startUpLine l s).interlocks = s.interlocks := by
  unfold State.startUpLine
  split_ifs
  · exact s.interlocks_pinLine noMove
  · exact s.interlocks_beginRelease l _ _ noMove

theorem State.startUp_eq : s.startUp = State.forLines State.startUpLine allLines s := rfl

/-- R46: every line at start-up. -/
theorem State.line_startUp (l : LineId) : s.startUp.line l = (s.line l).startedUp s.lineTime := by
  rw [State.startUp_eq, State.line_forLines (f := fun _ ln now => ln.startedUp now) (fun l u => u.line_startUpLine l)
    (fun l m u other => (u.startUpLine_change l).others m other) (fun l u => (u.startUpLine_change l).same.lineTime)
    nodup_allLines, if_pos (mem_allLines l)]

theorem State.interlocks_startUp (noMove : ∀ l, (s.line l).move = none) : s.startUp.interlocks = s.interlocks :=
  State.interlocks_forLines (fun _ u => u.interlocks_startUpLine)
    (fun l m u other => (u.startUpLine_change l).others m other) nodup_allLines fun l _ => noMove l

/-- R48: one line of the pinned lines' moves. -/
def State.pinAgain (l : LineId) (s : State) : State := if (s.line l).static.pinned then s.pinLine l else s

theorem State.pinAgain_change (l : LineId) : s.LineChange (State.pinAgain l s) l := by
  unfold State.pinAgain
  split_ifs
  · exact .pinLine s l
  · exact ⟨.refl s, fun _ _ => rfl⟩

/-- R48: every line once the pinned lines' moves have started. -/
theorem State.line_pinAgain (l : LineId) :
    (State.forLines State.pinAgain allLines s).line l = (s.line l).pinnedAgain s.lineTime := by
  rw [State.line_forLines (f := fun _ ln now => ln.pinnedAgain now) (fun l u => ?_)
    (fun l m u other => (u.pinAgain_change l).others m other) (fun l u => (u.pinAgain_change l).same.lineTime)
    nodup_allLines, if_pos (mem_allLines l)]
  unfold State.pinAgain Line.pinnedAgain
  split_ifs
  · exact u.line_pinLine l
  · rfl

/-- R64: the lines that the conflict rule chooses. -/
def State.chosen (x : Image) : List LineId := s.conflicts (fun l => (s.line l).drive) (x.rules.take 32) []

theorem State.conflictChoice_unpinned {r : Rule} {l : LineId} (chosen : l ∈ (s.conflictChoice r).toList) :
    (s.line l).static.pinned = false := by
  unfold State.conflictChoice at chosen
  split at chosen
  · cases chosen
  · obtain rfl := List.mem_singleton.mp chosen
    assumption
  · obtain rfl := List.mem_singleton.mp chosen
    assumption
  · obtain rfl := List.mem_singleton.mp chosen
    split_ifs <;> assumption

theorem State.conflicts_unpinned (drives : LineId → Drive) : ∀ (rules : List Rule) (chosen : List LineId),
    (∀ l ∈ chosen, (s.line l).static.pinned = false) →
      ∀ l ∈ s.conflicts drives rules chosen, (s.line l).static.pinned = false
  | [], _, before => before
  | r :: rules, chosen, before => by
    rw [State.conflicts]
    split_ifs
    · refine conflicts_unpinned drives rules _ fun l listed => ?_
      exact (List.mem_append.mp listed).elim (before l) s.conflictChoice_unpinned
    · exact conflicts_unpinned drives rules chosen before

theorem State.chosen_unpinned (x : Image) {l : LineId} (chosen : l ∈ s.chosen x) : (s.line l).static.pinned = false :=
  s.conflicts_unpinned _ _ [] (fun _ none => absurd none List.not_mem_nil) l chosen

/-- R64, step 4: the lines as the conflict rule leaves them, before the statuses of the slots are settled. -/
def State.conflictsFloated (x : Image) : State :=
  State.forLines State.floatLine (ascending (s.chosen x)) (State.forLines State.pinAgain allLines s)

theorem State.resolveConflicts_eq (x : Image) : s.resolveConflicts x = { s.conflictsFloated x with
    interlocks := Table.map (fun slot => slot.place (s.conflictsFloated x).assertion) (ruleSlots x.rules) } := rfl

theorem State.pinAgain_same : s.SameButLines (State.forLines State.pinAgain allLines s) :=
  State.forLines_same (fun l u => (u.pinAgain_change l).same) allLines s

theorem State.conflictsFloated_same (x : Image) : s.SameButLines (s.conflictsFloated x) :=
  s.pinAgain_same.trans (State.forLines_same (fun l u => State.floatLine_same u l) _ _)

/-- R48, R64: every line at the end of a restart's load. -/
theorem State.line_conflictsFloated (x : Image) (l : LineId) : (s.conflictsFloated x).line l =
    if l ∈ s.chosen x then (s.line l).floated s.lineTime else (s.line l).pinnedAgain s.lineTime := by
  rw [State.conflictsFloated, State.line_forLines (f := fun _ ln now => ln.floated now) (fun l u => u.line_floatLine l)
    (fun _ _ u other => u.line_floatLine_other other) (fun l u => (u.floatLine_same l).lineTime) (nodup_ascending _),
    s.pinAgain_same.lineTime]
  simp only [mem_ascending, State.line_pinAgain]
  split_ifs with chosen
  · rw [Line.pinnedAgain, s.chosen_unpinned x chosen, if_neg nofun]
  · rfl

theorem State.lines_resolveConflicts (x : Image) : (s.resolveConflicts x).lines = (s.conflictsFloated x).lines := by
  rw [State.resolveConflicts_eq]

theorem State.line_resolveConflicts (x : Image) (l : LineId) : (s.resolveConflicts x).line l =
    if l ∈ s.chosen x then (s.line l).floated s.lineTime else (s.line l).pinnedAgain s.lineTime := by
  rw [← State.line_conflictsFloated, State.line, State.lines_resolveConflicts, State.line]

theorem State.assertion_resolveConflicts (x : Image) :
    (s.resolveConflicts x).assertion = (s.conflictsFloated x).assertion := by
  funext l
  rw [State.assertion, State.line, State.lines_resolveConflicts, State.assertion, State.line]

theorem State.ruleAt_resolveConflicts (x : Image) (k : RuleSlot) : (s.resolveConflicts x).ruleAt k =
    ((ruleSlots x.rules).get k).place (s.resolveConflicts x).assertion := by
  have table : (s.resolveConflicts x).interlocks =
      Table.map (fun slot => slot.place (s.conflictsFloated x).assertion) (ruleSlots x.rules) := by
    rw [State.resolveConflicts_eq]
  rw [State.assertion_resolveConflicts, State.ruleAt, table, Table.get_map]

/-- R22, R48: one line of a restart's load that ends without an image. -/
def State.floatDriven (l : LineId) (s : State) : State := if (s.line l).drive = .float then s else s.floatLine l

theorem State.floatDriven_change (l : LineId) : s.LineChange (State.floatDriven l s) l := by
  unfold State.floatDriven
  split_ifs
  · exact ⟨.refl s, fun _ _ => rfl⟩
  · exact .floatLine s l

theorem State.interlocks_floatDriven {l : LineId} (noMove : (s.line l).move = none) :
    (State.floatDriven l s).interlocks = s.interlocks := by
  unfold State.floatDriven
  split_ifs
  · rfl
  · rw [State.floatLine, State.interlocks_startMove, State.abandon_none]
    · rfl
    · rw [State.line_modifyLine_self]
      exact noMove

theorem State.floatAll_eq : s.floatAll = State.forLines State.floatDriven allLines s := rfl

theorem State.interlocks_floatAll (noMove : ∀ l, (s.line l).move = none) : s.floatAll.interlocks = s.interlocks :=
  State.interlocks_forLines (fun _ u => u.interlocks_floatDriven)
    (fun l m u other => (u.floatDriven_change l).others m other) nodup_allLines fun l _ => noMove l

/-- R22, R48: every line at the end of a restart's load that ends without an image. -/
theorem State.line_floatAll (l : LineId) : s.floatAll.line l =
    if (s.line l).drive = .float then s.line l else (s.line l).floated s.lineTime := by
  rw [State.floatAll_eq, State.line_forLines (f := fun _ ln now => if ln.drive = .float then ln else ln.floated now)
    (fun l u => ?_) (fun l m u other => (u.floatDriven_change l).others m other)
    (fun l u => (u.floatDriven_change l).same.lineTime) nodup_allLines, if_pos (mem_allLines l)]
  unfold State.floatDriven
  split_ifs
  · rfl
  · exact u.line_floatLine l

end

/-! ### What those lines keep (R23, R51) -/

section
variable {ln : Line} {now : LineTime}

theorem Line.Coherent.driven_profile (coherent : ln.Coherent) (free : ln.state = .free) (d : Drive) :
    ((ln.profileHeld.checkedIn now).driven d now).Coherent := by
  obtain ⟨move, -, prior, due, -, -, keeper⟩ := coherent
  have noMove : ¬ ln.move.isSome = true := fun moves => by
    obtain state | state := move.mp moves <;> simp [free] at state
  have held : ln.profileHeld.Coherent := by
    refine ⟨iff_of_false noMove (by simp [Line.profileHeld]), by simp [Line.profileHeld], prior, fun isDue => ?_, nofun,
      iff_of_true nofun (.inl rfl), keeper⟩
    have moving := (due isDue).1
    simp [free] at moving
  refine (held.checkedIn now).driven ?_ d
  rw [Line.checkedIn_holder]
  exact nofun

theorem Line.profileHeld_checkedIn_binding : (ln.profileHeld.checkedIn now).binding = ln.binding :=
  Line.checkedIn_binding _ now

theorem Line.Coherent.startedUp (coherent : ln.Coherent) (free : ln.state = .free) : (ln.startedUp now).Coherent := by
  unfold Line.startedUp
  split_ifs
  · exact coherent.driven_profile free _
  · obtain ⟨-, -, -, -, -, -, keeper⟩ := coherent
    exact Line.released_coherent keeper _ _

theorem Line.startedUp_binding : (ln.startedUp now).binding = ln.binding := by
  unfold Line.startedUp
  split_ifs
  · rw [Line.driven_binding, Line.checkedIn_binding]
    rfl
  · rfl

theorem Line.Coherent.pinnedAgain (coherent : ln.Coherent) (free : ln.state = .free) : (ln.pinnedAgain now).Coherent := by
  unfold Line.pinnedAgain
  split_ifs
  · exact coherent.driven_profile free _
  · exact coherent

theorem Line.pinnedAgain_binding : (ln.pinnedAgain now).binding = ln.binding := by
  unfold Line.pinnedAgain
  split_ifs
  · rw [Line.driven_binding, Line.checkedIn_binding]
    rfl
  · rfl

theorem Line.Coherent.floated (coherent : ln.Coherent) (free : ln.state = .free) : (ln.floated now).Coherent := by
  obtain ⟨-, -, prior, due, heir, holder, keeper⟩ := coherent
  refine ⟨iff_of_true rfl (.inr rfl), iff_of_true rfl (.inr rfl), prior, fun isDue => ?_, heir, ?_,
    Line.commanded_keeper _ now keeper⟩
  · have moving := (due isDue).1
    simp [free] at moving
  · refine iff_of_false (fun held => ?_) (by simp [Line.floated])
    obtain state | state := holder.mp held <;> simp [free] at state

/-- R46, R51, R62: a line that starts up from FLOAT asserts no more than its fallback. -/
theorem Line.startedUp_levels (float : ln.drive = .float) (noMove : ln.move = none) :
    (ln.startedUp now).levels.Within ln.static.fallback.levels := by
  have from_float (kind : MoveKind) (x : Line) (drive : x.drive = .float) (t : Drive) :
      (x.moving kind t now).levels.Within t.levels := by
    refine (Line.moving_levels x kind t now).trans (Levels.union_within ?_ (.refl _))
    rw [drive]
    exact Levels.empty_within _
  unfold Line.startedUp
  split_ifs
  · have drive : (ln.profileHeld.checkedIn now).drive = .float := (Line.checkedIn_drive _ now).trans float
    by_cases present : (ln.profileHeld.checkedIn now).drive = ln.static.fallback
    · have stays : (ln.profileHeld.checkedIn now).move = none := (Line.checkedIn_move _ now).trans noMove
      rw [Line.driven, if_pos present, Line.levels_of_noMove stays, drive]
      exact Levels.empty_within _
    · rw [Line.driven_levels _ _ _ present]
      exact from_float _ _ drive _
  · rw [Line.released_levels]
    exact from_float _ _ float _

end

/-! ### The laws at the end of a load (R152 to R154, R158) -/

section
variable {s t : State}

theorem State.Coherent.free_of_load (coherent : s.Coherent) (load : s.loader.load.isSome = true) (l : LineId) :
    (s.line l).state = .free := (coherent.2.2.2 (coherent.starting_of_load load)).1 l

theorem State.Coherent.noMove_of_free (coherent : s.Coherent) {l : LineId} (free : (s.line l).state = .free) :
    (s.line l).move = none := by
  obtain ⟨moves, -⟩ := coherent.line l
  rw [← Option.not_isSome_iff_eq_none]
  intro some
  obtain state | state := moves.mp some <;> simp [free] at state

/-- R24, R47: what a load ends into: in STARTING no line is bound and no run exists, so a state with those lines, their
static fields apart, and no runs is coherent past STARTING, whatever its store. -/
theorem State.Coherent.loaded (coherent : s.Coherent) (load : s.loader.load.isSome = true)
    (lines : ∀ l, t.line l = { s.line l with statics := (t.line l).statics }) (slots : t.slots = s.slots)
    (ended : t.loader.load = none) (started : t.partState ≠ .starting) : t.Coherent := by
  have runs (k : SlotId) : t.run k = none := by
    rw [State.run, slots]
    exact (coherent.2.2.2 (coherent.starting_of_load load)).2 k
  have unbound (l : LineId) : (t.line l).binding = none := by
    rw [lines]
    exact coherent.unbound (.inl (coherent.holder_of_free (coherent.free_of_load load l)))
  refine ⟨fun l => ?_, ⟨fun l k bound => ?_, fun k r run => ?_⟩, fun loading => ?_, fun part => absurd part started⟩
  · rw [lines]
    exact coherent.line l
  · rw [unbound] at bound
    cases bound
  · rw [runs] at run
    cases run
  · rw [ended] at loading
    cases loading

/-- Lines rewritten into coherent ones, each bound as before, where no line is bound. -/
theorem State.Coherent.rewriteFree (coherent : s.Coherent) (same : s.SameButLines t) (started : s.partState ≠ .starting)
    (free : ∀ l, (s.line l).state = .free) (own : ∀ l, (t.line l).Coherent)
    (binding : ∀ l, (t.line l).binding = (s.line l).binding) : t.Coherent := by
  refine coherent.rewrite same fun l => .inr ⟨own l, binding l, fun k bound => ?_, .inl started⟩
  rw [coherent.unbound (.inl (coherent.holder_of_free (free l)))] at bound
  cases bound

theorem State.StartFloating.of_ended (ended : t.loader.load = none) : t.StartFloating := fun r loading => by
  rw [ended] at loading
  cases loading

theorem Line.driven_profile_holder (ln : Line) (d : Drive) (now : LineTime) :
    ((ln.profileHeld.checkedIn now).driven d now).holder = .profile := by
  rw [Line.driven_holder, Line.checkedIn_holder]
  rfl

/-! #### With an image -/

variable (x : Image)

/-- R153, step 1: the lines of an image in force. -/
theorem State.line_force (s : State) (x : Image) (l : LineId) :
    (s.force x).line l = { s.line l with statics := some (x.lines.get l) } := Table.get_ofFn _ l

theorem State.static_force (s : State) (x : Image) (l : LineId) : ((s.force x).line l).static = x.lines.get l := by
  rw [State.line_force, Line.static]
  rfl

theorem ruleSlots_get (rules : List Rule) (k : RuleSlot) : (ruleSlots rules).get k =
    match rules[k.val]? with
    | some r => .rule r .occupied .fixed
    | none => .empty := Table.get_ofFn _ k

/-- R46, R62: no rule of the image is matched at start-up from FLOAT. -/
theorem State.rulesHold_startUp (admitted : x.fallbacksAdmitted = true) (table : s.interlocks = ruleSlots x.rules)
    (statics : ∀ l, (s.line l).static = x.lines.get l) (float : ∀ l, (s.line l).drive = .float)
    (noMove : ∀ l, (s.line l).move = none) : s.startUp.RulesHold := fun k => by
  have within (l : LineId) : (s.startUp.assertion l).Within (x.fallbackLevels l) := by
    rw [State.assertion, State.line_startUp, Image.fallbackLevels, ← statics]
    exact Line.startedUp_levels (float l) (noMove l)
  rw [State.ruleAt, s.interlocks_startUp noMove, table, ruleSlots_get]
  cases rule : x.rules[k.val]? with
  | none => rfl
  | some r =>
    have unmatched := List.all_eq_true.mp admitted r (List.mem_of_getElem? rule)
    simp only [Bool.not_eq_true', ← Bool.not_eq_true, InterlockSlot.unmatched] at unmatched ⊢
    exact fun isMatched => unmatched (Rule.matchedBy_mono within isMatched)

/-- R64, step 4: the statuses are settled by what is asserted, so no OCCUPIED rule is matched. -/
theorem State.rulesHold_resolveConflicts (s : State) : (s.resolveConflicts x).RulesHold := fun k => by
  rw [State.ruleAt_resolveConflicts]
  cases (ruleSlots x.rules).get k with
  | empty => rfl
  | rule r status origin =>
    rw [InterlockSlot.place]
    split_ifs with isMatched
    · rfl
    · simp [InterlockSlot.unmatched, isMatched]

theorem State.coherent_startUp (coherent : s.Coherent) (started : s.partState ≠ .starting)
    (free : ∀ l, (s.line l).state = .free) : s.startUp.Coherent := by
  refine coherent.rewriteFree s.startUp_same started free (fun l => ?_) fun l => ?_
  · rw [State.line_startUp]
    exact (coherent.line l).startedUp (free l)
  · rw [State.line_startUp, Line.startedUp_binding]

theorem State.coherent_resolveConflicts (coherent : s.Coherent) (started : s.partState ≠ .starting)
    (free : ∀ l, (s.line l).state = .free) : (s.resolveConflicts x).Coherent := by
  refine coherent.rewriteFree (s.resolveConflicts_same x) started free (fun l => ?_) fun l => ?_
  · rw [State.line_resolveConflicts]
    split_ifs
    · exact (coherent.line l).floated (free l)
    · exact (coherent.line l).pinnedAgain (free l)
  · rw [State.line_resolveConflicts]
    split_ifs
    · rfl
    · rw [Line.pinnedAgain_binding]

/-- R46, R48: nobody holds a line anew at the end of a load but the profile. -/
theorem State.HoldersOpen.startUp (holders : s.HoldersOpen) : s.startUp.HoldersOpen := by
  have same := s.startUp_same
  refine holders.of_fewer same.isOpen (fun l n held => ?_) fun e => by rw [same.pendingList]; exact id
  rw [State.line_startUp, Line.startedUp] at held
  split_ifs at held
  · rw [Line.driven_profile_holder] at held
    cases held
  · cases held

theorem State.HoldersOpen.resolveConflicts (holders : s.HoldersOpen) : (s.resolveConflicts x).HoldersOpen := by
  have same := s.resolveConflicts_same x
  refine holders.of_fewer same.isOpen (fun l n held => ?_) fun e => by rw [same.pendingList]; exact id
  rw [State.line_resolveConflicts, Line.pinnedAgain] at held
  split_ifs at held
  · exact .inl held
  · rw [Line.driven_profile_holder] at held
    cases held
  · exact .inl held

/-- What brings an image into force leaves the lines' holders and the sessions as open as they were. -/
theorem State.HoldersOpen.relaid (holders : s.HoldersOpen) (lives : ∀ n, t.live n = s.live n)
    (holder : ∀ l, (t.line l).holder = (s.line l).holder) (pending : t.pendingList = s.pendingList) : t.HoldersOpen := by
  refine holders.of_fewer (fun n => by rw [State.isOpen, lives, State.isOpen]) (fun l n held => .inl ?_) fun e => ?_
  · rwa [holder] at held
  · rw [pending]
    exact id

theorem State.force_pendingList (s : State) (x : Image) : (s.force x).pendingList = s.pendingList := by
  dsimp only [State.force, State.forceAgents, State.forceStatics]

theorem State.force_slots (s : State) (x : Image) : (s.force x).slots = s.slots := by
  dsimp only [State.force, State.forceAgents, State.forceStatics]

theorem State.force_interlocks (s : State) (x : Image) : (s.force x).interlocks = ruleSlots x.rules := rfl

/-- R152, R153: the end of a load with an image keeps the laws; after a reset the pads stand in FLOAT. -/
theorem State.keepsLaws_endReady {r : LoadRun} (load : s.loader.load = some r) (slot : FlashSlot)
    (generation : BitVec 32) (admitted : x.fallbacksAdmitted = true) :
    s.KeepsLaws (s.endReady r.restart slot generation x) := by
  have loading : s.loader.load.isSome = true := by rw [load, Option.isSome_some]
  unfold State.endReady
  generalize loaded : s.modifyLoader _ = u
  have lines (l : LineId) : (u.force x).line l = { s.line l with statics := some (x.lines.get l) } := by
    rw [State.line_force, ← loaded]
    rfl
  have ended : (u.force x).loader.load = none := by rw [State.force_loader, ← loaded]; rfl
  have started : (u.force x).partState ≠ .starting := by rw [State.partState, State.force_loader, ← loaded]; exact nofun
  have free (coherent : s.Coherent) (l : LineId) : ((u.force x).line l).state = .free := by
    rw [lines]
    exact coherent.free_of_load loading l
  have forced (coherent : s.Coherent) : (u.force x).Coherent := by
    refine coherent.loaded loading (fun l => ?_) (by rw [State.force_slots, ← loaded]; rfl) ended started
    rw [lines]
  have held (holders : s.HoldersOpen) : (u.force x).HoldersOpen := by
    refine holders.relaid (fun n => ?_) (fun l => by rw [lines]) (by rw [State.force_pendingList, ← loaded]; rfl)
    rw [State.live_force, ← loaded]
    rfl
  have statics (l : LineId) : ((u.force x).line l).static = x.lines.get l := u.static_force x l
  have table := u.force_interlocks x
  dsimp only
  generalize u.force x = v at lines ended started free forced held statics table
  cases restart : r.restart with
  | true =>
    rw [if_pos rfl]
    refine ⟨⟨fun coherent => State.coherent_resolveConflicts x (forced coherent) started (free coherent),
      fun _ _ _ => ⟨.of_ended ?_, State.rulesHold_resolveConflicts x v⟩⟩, fun holders => (held holders).resolveConflicts x⟩
    rw [(v.resolveConflicts_same x).loader, ended]
  | false =>
    rw [if_neg nofun]
    refine ⟨⟨fun coherent => State.coherent_startUp (forced coherent) started (free coherent),
      fun coherent floating _ => ⟨.of_ended ?_, State.rulesHold_startUp x admitted table statics (fun l => ?_) fun l => ?_⟩⟩,
      fun holders => (held holders).startUp⟩
    · rw [v.startUp_same.loader, ended]
    · rw [lines]
      exact floating r load restart l
    · exact (forced coherent).noMove_of_free (free coherent l)

/-! #### Without an image -/

/-- R152, R154: the end of a load without an image leaves no rule in force. -/
theorem State.keepsLaws_endDegraded (load : s.loader.load.isSome = true) (restart : Bool) :
    s.KeepsLaws (s.endDegraded restart) := by
  unfold State.endDegraded
  generalize loaded : s.modifyLoader _ = u
  have lines : u.degrade.lines = s.lines := by rw [← loaded]; rfl
  have line (l : LineId) : u.degrade.line l = s.line l := by rw [State.line, lines, State.line]
  have ended : u.degrade.loader.load = none := by rw [← loaded]; rfl
  have started : u.degrade.partState ≠ .starting := by rw [← loaded]; exact nofun
  have degraded (coherent : s.Coherent) : u.degrade.Coherent :=
    coherent.loaded load (fun l => by rw [line]) (by rw [← loaded]; rfl) ended started
  have held (holders : s.HoldersOpen) : u.degrade.HoldersOpen := by
    refine holders.relaid (fun n => ?_) (fun l => by rw [line]) (by rw [← loaded]; rfl)
    rw [← loaded]
    exact State.live_forceAgents _ _ n
  have table (k : RuleSlot) : u.degrade.ruleAt k = .empty := Table.get_replicate _ k
  have hold : u.degrade.RulesHold := fun k => by rw [table]; rfl
  dsimp only
  generalize u.degrade = v at line ended started degraded held table hold
  cases restart with
  | false => exact ⟨⟨degraded, fun _ _ _ => ⟨.of_ended ended, hold⟩⟩, held⟩
  | true =>
    have same := v.floatAll_same
    have free (coherent : s.Coherent) (l : LineId) : (v.line l).state = .free := by
      rw [line]
      exact coherent.free_of_load load l
    rw [if_pos rfl]
    refine ⟨⟨fun coherent => (degraded coherent).rewriteFree same started (free coherent) (fun l => ?_) fun l => ?_,
      fun coherent _ _ => ⟨.of_ended (by rw [same.loader, ended]), fun k => ?_⟩⟩, fun holders => ?_⟩
    · rw [State.line_floatAll]
      split_ifs
      · exact (degraded coherent).line l
      · exact ((degraded coherent).line l).floated (free coherent l)
    · rw [State.line_floatAll]
      split_ifs <;> rfl
    · have tableAfter := v.interlocks_floatAll fun l => (degraded coherent).noMove_of_free (free coherent l)
      rw [State.ruleAt_congr tableAfter, table]
      rfl
    · refine (held holders).of_fewer same.isOpen (fun l n held => .inl ?_) fun e => by rw [same.pendingList]; exact id
      rw [State.line_floatAll] at held
      split_ifs at held
      · exact held
      · exact held

/-- R152: the results of the slots are read before the load ends. -/
theorem State.keepsLaws_finishLoad {r : LoadRun} (load : s.loader.load = some r) : s.KeepsLaws (s.finishLoad r.restart) := by
  unfold State.finishLoad
  generalize read : s.modifyLoader _ = u
  have results : s.KeepsLaws u := read ▸ s.keepsLaws_modifyLoader rfl rfl
  have loading : u.loader.load = some r := read ▸ load
  dsimp only
  split
  · next slot generation x selected =>
    exact results.trans (State.keepsLaws_endReady x loading slot generation
      (checkImage_fallbacksAdmitted (State.checkSlot_of_select selected).1))
  · exact results.trans (State.keepsLaws_endDegraded (by rw [loading]; rfl) r.restart)

theorem State.keepsLaws_abandonLoad {r : LoadRun} (load : s.loader.load = some r) :
    s.KeepsLaws (s.abandonLoad r.restart) := by
  unfold State.abandonLoad
  generalize read : s.modifyLoader _ = u
  have results : s.KeepsLaws u := read ▸ s.keepsLaws_modifyLoader rfl rfl
  have loading : u.loader.load = some r := read ▸ load
  exact results.trans (State.keepsLaws_endDegraded (by rw [loading]; rfl) r.restart)

end

/-! ### RESTART and the reset pin (R156, R157) -/

section
variable (s : State)

theorem Line.restarted_coherent {ln : Line} (coherent : ln.Coherent) : ln.restarted.Coherent := by
  obtain ⟨-, -, -, -, -, -, keeper⟩ := coherent
  exact ⟨by simp [Line.restarted], by simp [Line.restarted], by simp [Line.restarted], nofun, nofun,
    by simp [Line.restarted], keeper⟩

theorem State.line_acceptRestart (l : LineId) : s.acceptRestart.line l = (s.line l).restarted :=
  (State.line_settleReserved _ l).trans (Table.get_map Line.restarted s.lines l)

theorem State.run_acceptRestart (k : SlotId) : s.acceptRestart.run k = none := by
  rw [State.run, State.acceptRestart, State.settleReserved_slots]
  exact Table.get_replicate _ k

/-- R51: a slot that is kept or emptied holds to the law as it did. -/
theorem InterlockSlot.unmatched_restarted {slot : InterlockSlot} {sets : LineId → Levels}
    (unmatched : slot.unmatched sets = true) : slot.restarted.unmatched sets = true := by
  unfold InterlockSlot.restarted
  split_ifs
  · exact unmatched
  · rfl

theorem State.ruleAt_acceptRestart (k : RuleSlot) :
    s.acceptRestart.ruleAt k = (s.ruleAt k).restarted.settle s.acceptRestart.assertion := by
  obtain ⟨u, settled, table⟩ : ∃ u : State, s.acceptRestart = u.settleReserved ∧ u.interlocks =
      Table.map InterlockSlot.restarted s.interlocks := ⟨_, rfl, rfl⟩
  rw [settled, State.ruleAt_settleReserved, State.assertion_settleReserved, State.ruleAt, table, Table.get_map, State.ruleAt]

/-- R51, R65: with the moves of all lines gone no more is asserted than before, and the table is settled at last. -/
theorem State.rulesHold_acceptRestart (hold : s.RulesHold) : s.acceptRestart.RulesHold := fun k => by
  have within (l : LineId) : (s.acceptRestart.assertion l).Within (s.assertion l) := by
    rw [State.assertion, State.line_acceptRestart]
    exact Line.drive_levels_within (s.line l)
  rw [State.ruleAt_acceptRestart]
  exact InterlockSlot.unmatched_settle
    (InterlockSlot.unmatched_mono within (InterlockSlot.unmatched_restarted (hold k)))

/-- Every line is FREE and unbound, and no run exists: a coherent state, whatever the part state. -/
theorem State.coherent_of_idle (own : ∀ l, (s.line l).Coherent) (free : ∀ l, (s.line l).state = .free)
    (unbound : ∀ l, (s.line l).binding = none) (idle : ∀ k, s.run k = none)
    (load : s.loader.load.isSome = true → s.partState = .starting) : s.Coherent := by
  refine ⟨own, ⟨fun l k bound => ?_, fun k r run => ?_⟩, load, fun _ => ⟨free, idle⟩⟩
  · rw [unbound] at bound
    cases bound
  · rw [idle] at run
    cases run

/-- Nobody holds a line or waits for one. -/
theorem State.holdersOpen_of_none (noHolder : ∀ l, (s.line l).holder = .none) (noEntry : s.pendingList = []) :
    s.HoldersOpen := by
  refine ⟨fun l n held => ?_, fun e listed => ?_⟩
  · rw [noHolder] at held
    cases held
  · rw [noEntry] at listed
    cases listed

theorem State.keepsLaws_acceptRestart : s.KeepsLaws s.acceptRestart := by
  have line := s.line_acceptRestart
  refine ⟨⟨fun coherent => State.coherent_of_idle _ (fun l => ?_) (fun l => by rw [line]; rfl) (fun l => by rw [line]; rfl)
    s.run_acceptRestart fun _ => rfl, fun _ _ hold => ⟨fun r loading reset => ?_, s.rulesHold_acceptRestart hold⟩⟩,
    fun _ => State.holdersOpen_of_none _ (fun l => by rw [line]; rfl) rfl⟩
  · rw [line]
    exact Line.restarted_coherent (coherent.line l)
  · cases loading
    cases reset

theorem State.line_resetAll (left : FlashCells) (l : LineId) :
    (s.resetAll left).line l = Line.atReset (s.line l).observed := by
  have lines : (s.resetAll left).lines = Table.map (fun ln => Line.atReset ln.observed) s.lines := rfl
  rw [State.line, lines, Table.get_map, State.line]

theorem State.ruleAt_resetAll (left : FlashCells) (k : RuleSlot) : (s.resetAll left).ruleAt k = .empty :=
  Table.get_replicate _ k

theorem Line.atReset_coherent (level : Level) : (Line.atReset level).Coherent := by
  simp [Line.Coherent, Line.atReset]

/-- R20, R45: after a reset every line is FREE in FLOAT, no run exists and no rule is in the table. -/
theorem State.keepsLaws_of_reset {t : State} (lines : ∀ l, ∃ level, t.line l = Line.atReset level)
    (idle : ∀ k, t.run k = none) (table : ∀ k, t.ruleAt k = .empty) (noEntry : t.pendingList = [])
    (part : t.partState = .starting) : s.KeepsLaws t := by
  have line {α : Type} (f : Line → α) (x : α) (const : ∀ level, f (Line.atReset level) = x) (l : LineId) : f (t.line l) = x := by
    obtain ⟨level, eq⟩ := lines l
    rw [eq, const]
  refine ⟨⟨fun _ => State.coherent_of_idle t (fun l => ?_) (line Line.state _ fun _ => rfl)
    (line Line.binding _ fun _ => rfl) idle fun _ => part, fun _ _ _ => ⟨fun _ _ _ => line Line.drive _ fun _ => rfl, fun k => ?_⟩⟩,
    fun _ => State.holdersOpen_of_none t (line Line.holder _ fun _ => rfl) noEntry⟩
  · obtain ⟨level, eq⟩ := lines l
    rw [eq]
    exact Line.atReset_coherent level
  · rw [table]
    rfl

theorem State.run_resetAll (left : FlashCells) (k : SlotId) : (s.resetAll left).run k = none := Table.get_replicate _ k

theorem State.keepsLaws_resetAll (left : FlashCells) : s.KeepsLaws (s.resetAll left) :=
  s.keepsLaws_of_reset (fun l => ⟨_, s.line_resetAll left l⟩) (s.run_resetAll left) (s.ruleAt_resetAll left) rfl rfl

theorem State.line_release (levels : BitVec 48) (l : LineId) :
    (s.release levels).line l = { s.line l with observed := levels.getLsbD l.val } := Table.get_ofFn _ l

theorem State.line_resetRelease (left : FlashCells) (levels : BitVec 48) (l : LineId) :
    ((s.resetAll left).release levels).line l = Line.atReset (levels.getLsbD l.val) := by
  rw [State.line_release, State.line_resetAll]
  rfl

theorem State.keepsLaws_resetRelease (left : FlashCells) (levels : BitVec 48) :
    s.KeepsLaws ((s.resetAll left).release levels) :=
  s.keepsLaws_of_reset (fun l => ⟨_, s.line_resetRelease left levels l⟩) (s.run_resetAll left) (s.ruleAt_resetAll left) rfl rfl

end

end Sys2Proof.Machine

/-! PROOFS: every request, event and step keeps the three laws (O56, O57, O58). A request is decided in the part states
that serve it, for an agent with an open session; a record test that no line fails tells what each line of the target
is. -/

namespace Sys2Proof.Machine

/-! ### The record tests (R28) -/

section
variable {s : State} {ls : List LineId} {test : Line → Bool}

theorem State.firstFailing_eq_none_iff : s.firstFailing ls test = none ↔ ∀ l ∈ ls, test (s.line l) = true := by
  simp [State.firstFailing, mem_ascending]

theorem State.firstRefusal_cons (o : ReqOutcome) (rest : List (ReqOutcome × (Line → Bool))) :
    s.firstRefusal ls ((o, test) :: rest) = match s.firstFailing ls test with
      | some l => some (Reply.of o (.line l))
      | none => s.firstRefusal ls rest := rfl

/-- R28: no test refuses exactly where every line passes every test. -/
theorem State.firstRefusal_eq_none_iff {tests : List (ReqOutcome × (Line → Bool))} :
    s.firstRefusal ls tests = none ↔ ∀ p ∈ tests, ∀ l ∈ ls, p.2 (s.line l) = true := by
  induction tests with
  | nil => simp [State.firstRefusal]
  | cons p rest ih =>
    obtain ⟨o, test⟩ := p
    rw [State.firstRefusal_cons, List.forall_mem_cons, ← State.firstFailing_eq_none_iff, ← ih]
    cases s.firstFailing ls test <;> simp

theorem Line.heldBy_iff {ln : Line} {n : Port} : ln.heldBy n = true ↔ ln.holder = .agent n := decide_eq_true_iff

end

/-! ### The decisions of the requests -/

section
variable {s : State} (n : Port)

theorem State.HoldersOpen.insert (holders : s.HoldersOpen) {e : Entry} (isOpen : s.isOpen e.agent = true) :
    ({ s with pendingList := insertEntry e s.pendingList } : State).HoldersOpen := by
  refine ⟨holders.1, fun d listed => ?_⟩
  have known : d = e ∨ d ∈ s.pendingList := by
    change d ∈ insertEntry e s.pendingList at listed
    unfold insertEntry at listed
    split at listed
    · exact (List.mem_append.mp listed).elim .inr fun own => .inl (List.mem_singleton.mp own)
    · obtain priority | rest := List.mem_append.mp listed
      · exact .inr (List.mem_filter.mp priority).1
      · obtain own | normal := List.mem_cons.mp rest
        · exact .inl own
        · exact .inr (List.mem_filter.mp normal).1
  obtain rfl | before := known
  · exact isOpen
  · exact holders.2 d before

theorem State.keepsLaws_grantNow (t : Target) (a : ClaimArgs) (started : s.partState ≠ .starting)
    (free : s.allFree t.lines = true) (isOpen : s.isOpen n = true) : s.KeepsLaws (s.grantNow n t a).state := by
  have granted : s.KeepsLaws (s.grantLines n a.term t.lines) :=
    ⟨State.keepsRecords_grantLines n a.term started free, fun holders => holders.grantLines isOpen a.term t.lines⟩
  unfold State.grantNow
  dsimp only
  cases a.drive with
  | none => exact granted
  | some d =>
    dsimp only
    cases driven : (s.grantLines n a.term t.lines).driveAll (proposals t.lines d) with
    | ok u => exact granted.trans (State.keepsLaws_driveAll _ driven (s.grantLines_held n a.term))
    | error refused => exact .refl s

theorem State.keepsLaws_claimWaits (t : Target) (a : ClaimArgs) (isOpen : s.isOpen n = true) :
    s.KeepsLaws (s.claimWaits n t a).state := by
  unfold State.claimWaits
  cases s.idleTicket n with
  | none => exact .refl s
  | some k =>
    have joined : s.KeepsLaws { s with
        pendingList := insertEntry (waitingEntry n k t a s.lineTime (s.afterMs a.patience)) s.pendingList } :=
      ⟨⟨id, fun _ => .intro⟩, fun holders => holders.insert isOpen⟩
    exact joined.trans (State.keepsLaws_modifyNotices _ n _)

theorem decideClaim_keepsLaws (a : ClaimArgs) (started : s.partState ≠ .starting) (isOpen : s.isOpen n = true) :
    s.KeepsLaws (decideClaim n a s).state := by
  unfold decideClaim
  cases s.resolve a.target with
  | none => exact .refl s
  | some t =>
    dsimp only
    cases s.firstRefusal t.lines (claimTests n) with
    | some r => exact .refl s
    | none =>
      dsimp only
      split_ifs with free
      · exact s.keepsLaws_grantNow n t a started free isOpen
      · exact .refl s
      · exact s.keepsLaws_claimWaits n t a isOpen

theorem decideCancel_keepsLaws (k : TicketId) : s.KeepsLaws (decideCancel n k s).state := by
  unfold decideCancel
  cases s.ticket n k with
  | idle => exact .refl s
  | waiting t => exact s.keepsLaws_removeEntry_setTicket n k .idle
  | granted t time applied => exact .refl s
  | expired t time => exact s.keepsLaws_modifyNotices n _

/-- R32: a line that is held and bound to no run is released. -/
theorem State.keepsLaws_releaseLine (l : LineId) (s : State) (held : (s.line l).holder ≠ .none)
    (unbound : (s.line l).binding = none) : s.KeepsLaws (State.releaseLine l s) :=
  State.keepsLaws_beginRelease .released (fun _ => unbound) (fun coherent => coherent.started_of_held held)
    State.releaseTarget_admitted

theorem decideRelease_keepsLaws (target : NamedTarget) : s.KeepsLaws (decideRelease n target s).state := by
  unfold decideRelease
  cases s.resolve target with
  | none => exact .refl s
  | some t =>
    dsimp only
    cases tested : s.firstRefusal t.lines [notHolderTest n, lineMovingTest, inSequenceTest] with
    | some r => exact .refl s
    | none =>
      have passes := State.firstRefusal_eq_none_iff.mp tested
      refine .forLines_of (asks := fun l u => (u.line l).holder ≠ .none ∧ (u.line l).binding = none)
        (fun l u ⟨held, unbound⟩ => u.keepsLaws_releaseLine l held unbound) (fun l m u other asks => ?_)
        (nodup_ascending t.lines) fun l listed => ⟨?_, ?_⟩
      · rwa [State.releaseLine, State.line_beginRelease_other _ _ _ other]
      · have holder := Line.heldBy_iff.mp (passes (notHolderTest n) (by simp) l (mem_ascending.mp listed))
        rw [holder]
        exact nofun
      · exact of_decide_eq_true (passes inSequenceTest (by simp) l (mem_ascending.mp listed))

theorem decideSet_keepsLaws (entries : List (LineId × Drive)) : s.KeepsLaws (decideSet n entries s).state := by
  unfold decideSet
  cases tested : s.firstRefusal (entries.map (·.1)) [notHolderTest n, lineMovingTest, lineFaultedTest, inSequenceTest] with
  | some r => exact .refl s
  | none =>
    dsimp only
    cases driven : s.driveAll entries with
    | error refused => exact .refl s
    | ok u =>
      refine State.keepsLaws_driveAll entries driven fun e listed => ?_
      have holder := Line.heldBy_iff.mp (State.firstRefusal_eq_none_iff.mp tested (notHolderTest n) (by simp) e.1
        (List.mem_map_of_mem listed))
      rw [holder]
      exact nofun

/-- R33: the heir of a line that the requester holds is another agent, or none. -/
theorem decideSetHeir_keepsLaws (a : LineId × Option Port) (other : a.2 ≠ some n) :
    s.KeepsLaws (decideSetHeir n a s).state := by
  unfold decideSetHeir
  split_ifs with held
  · rw [Verdict.state]
    refine State.keepsLaws_modifyLine (s := s) (l := a.1) (fun ⟨move, free, prior, due, _, holder, keeper⟩ => ?_) rfl
      (fun _ _ => id) rfl rfl rfl rfl
    refine ⟨move, free, prior, due, fun m own => ?_, holder, keeper⟩
    have same : m = n := Holder.agent.inj (own.symm.trans (Line.heldBy_iff.mp held))
    rwa [same]
  · exact .refl s

/-- R34: the term of a line bound to no run is set or removed. -/
theorem State.keepsLaws_extendLine (term : Option Nat) (l : LineId) (s : State) (unbound : (s.line l).binding = none) :
    s.KeepsLaws (State.extendLine term l s) := by
  unfold State.extendLine
  refine State.keepsLaws_modifyLine (s := s) (l := l) (fun ⟨move, free, prior, _, heir, holder, keeper⟩ =>
    ⟨move, free, prior, nofun, heir, holder, keeper⟩) rfl (fun k bound => ?_) rfl rfl rfl rfl
  rw [unbound] at bound
  cases bound

theorem decideExtend_keepsLaws (a : NamedTarget × Option Nat) : s.KeepsLaws (decideExtend n a s).state := by
  unfold decideExtend
  cases s.resolve a.1 with
  | none => exact .refl s
  | some t =>
    dsimp only
    cases tested : s.firstRefusal t.lines [notHolderTest n, inSequenceTest] with
    | some r => exact .refl s
    | none =>
      refine .forLines_of (asks := fun l u => (u.line l).binding = none)
        (fun l u unbound => u.keepsLaws_extendLine a.2 l unbound) (fun l m u other asks => ?_)
        (nodup_ascending t.lines) fun l listed => ?_
      · rwa [State.extendLine, State.line_modifyLine, if_neg other]
      · exact of_decide_eq_true
          (State.firstRefusal_eq_none_iff.mp tested inSequenceTest (by simp) l (mem_ascending.mp listed))

/-- R19: the fault of a held line is cleared, and it is driven back where admission grants it. -/
theorem State.keepsLaws_restore {l : LineId} {prior : Drive} (held : (s.line l).holder ≠ .none)
    (admitted : s.admission l prior = none) : s.KeepsLaws (s.restore l prior) := by
  have cleared : s.KeepsLaws (s.modifyLine l fun ln => { ln with fault := .none, priorDrive := none }) :=
    State.keepsLaws_modifyLine (fun ⟨move, free, _, due, heir, holder, keeper⟩ =>
      ⟨move, free, by simp, due, heir, holder, keeper⟩) rfl (fun _ _ => id) rfl rfl rfl rfl
  refine cleared.trans (State.keepsLaws_driveTo (fun _ => ?_) ?_)
  · rwa [State.line_modifyLine_self]
  · have assertion := (State.LineChange.modifyLine s l fun ln => { ln with fault := .none, priorDrive := none }).assertion
      (by rw [State.line_modifyLine_self]; rfl)
    rw [State.admission_congr assertion (by rw [State.line_modifyLine_self]) rfl]
    exact admitted

theorem decideClearFault_keepsLaws (l : LineId) : s.KeepsLaws (decideClearFault n l s).state := by
  unfold decideClearFault
  split_ifs with held
  · split
    · split
      · exact .refl s
      · split
        · exact .refl s
        · next admitted =>
          refine State.keepsLaws_restore ?_ admitted
          rw [Line.heldBy_iff.mp held]
          exact nofun
    · exact .refl s
    · exact .refl s
  · exact .refl s

/-- R59: a rule that the assertion set does not match may join the table. -/
theorem State.keepsLaws_setRule {k : RuleSlot} {slot : InterlockSlot} (unmatched : slot.unmatched s.assertion = true) :
    s.KeepsLaws (s.setRule k slot) where
  coherent := id
  rules _ floating hold := ⟨floating, fun j => by
    rw [State.ruleAt_setRule]
    split_ifs
    · exact unmatched
    · exact hold j⟩
  holders := id

theorem decideAddInterlock_keepsLaws (r : Rule) : s.KeepsLaws (decideAddInterlock n r s).state := by
  unfold decideAddInterlock
  split
  · exact .refl s
  · split_ifs with isMatched
    · exact .refl s
    · exact State.keepsLaws_setRule (by simp [InterlockSlot.unmatched, isMatched])

theorem decideDropInterlock_keepsLaws (k : RuleSlot) : s.KeepsLaws (decideDropInterlock k s).state := by
  unfold decideDropInterlock
  split
  · exact .refl s
  · exact .refl s
  · exact State.keepsLaws_setRule rfl

/-- R110, R111, R113: a store entry that no run uses may change. -/
theorem State.keepsLaws_setSequence {q : SeqNumber} (x : Option Sequence) (unused : ¬ s.inUse q = true) :
    s.KeepsLaws (s.setSequence q x) := by
  have lineSet {k : SlotId} {r : Run} (run : s.run k = some r) :
      (s.setSequence q x).lineSet r.sequence = s.lineSet r.sequence := by
    have other : r.sequence ≠ q := fun same => unused (State.inUse_iff.mpr ⟨k, r, run, same⟩)
    rw [State.lineSet, State.steps, State.sequence_setSequence, if_neg other, State.lineSet, State.steps]
  refine ⟨⟨fun ⟨records, ⟨bindings, runs⟩, starting⟩ => ⟨records, ⟨fun l k bound => ?_, fun k r run l listed => ?_⟩, starting⟩,
    fun _ floating hold => ⟨floating, hold⟩⟩, id⟩
  · obtain ⟨term, r, run, held, listed⟩ := bindings l k bound
    rw [← lineSet run] at listed
    exact ⟨term, r, run, held, listed⟩
  · rw [lineSet run] at listed
    exact runs k r run l listed

theorem decideStore_keepsLaws (a : SeqNumber × List SeqStep) : s.KeepsLaws (decideStore a s).state := by
  unfold decideStore
  split_ifs with profile unused
  · exact .refl s
  · exact .refl s
  · exact State.keepsLaws_setSequence _ unused

theorem decideDropSequence_keepsLaws (q : SeqNumber) : s.KeepsLaws (decideDropSequence q s).state := by
  unfold decideDropSequence
  split
  · exact .refl s
  · exact .refl s
  · split_ifs with unused
    · exact .refl s
    · exact State.keepsLaws_setSequence _ unused

/-! ### RUN (R113 to R115) -/

/-- R115, step 2: the lines of the list are bound, and nothing else of any line changes. -/
theorem State.line_bind (s : State) (k : SlotId) {ls : List LineId} (distinct : ls.Nodup) (l : LineId) :
    (s.bind k ls).line l = if l ∈ ls then { s.line l with binding := some k } else s.line l :=
  State.line_forLines (f := fun _ ln _ => { ln with binding := some k }) (fun l u => u.line_modifyLine_self l _)
    (fun l _ u other => (State.LineChange.modifyLine u l _).others _ other) (fun _ _ => rfl) distinct s l

theorem State.bind_same (s : State) (k : SlotId) (ls : List LineId) : s.SameButLines (s.bind k ls) :=
  State.forLines_same (fun l u => State.modifyLine_same u l _) ls s

theorem State.interlocks_bind (s : State) (k : SlotId) (ls : List LineId) : (s.bind k ls).interlocks = s.interlocks := by
  rw [State.bind]
  induction ls generalizing s with
  | nil => rfl
  | cons l ls ih => exact ih _

/-- R115: the slot taken and the lines bound, before the first step begins. -/
def State.bound (s : State) (n : Port) (q : SeqNumber) (k : SlotId) : State :=
  (s.setRun k (some { sequence := q, agent := n, step := 1, phase := .stepping })).bind k (s.lineSet q)

theorem State.startRun_eq (s : State) (q : SeqNumber) (k : SlotId) :
    s.startRun n q k = State.beginSteps k (s.steps q) 1 (s.bound n q k) := rfl

variable {n} {q : SeqNumber} {k : SlotId}

theorem State.line_bound (s : State) (n : Port) (q : SeqNumber) (k : SlotId) (l : LineId) : (s.bound n q k).line l =
    if l ∈ s.lineSet q then { s.line l with binding := some k } else s.line l :=
  State.line_bind _ k (nodup_ascending _) l

theorem State.run_bound (s : State) (n : Port) (q : SeqNumber) (k j : SlotId) : (s.bound n q k).run j =
    if j = k then some { sequence := q, agent := n, step := 1, phase := .stepping } else s.run j := by
  rw [State.bound, (State.bind_same _ k _).run, State.run_setRun]

/-- R113: the lines of a run that starts are held by the runner, with no term and bound to no other run. -/
theorem State.keepsLaws_bound (idle : s.run k = none) (started : s.partState ≠ .starting)
    (lines : ∀ l ∈ s.lineSet q, (s.line l).holder = .agent n ∧ (s.line l).term = none ∧ (s.line l).binding = none) :
    s.KeepsLaws (s.bound n q k) := by
  have same : (s.setRun k (some { sequence := q, agent := n, step := 1, phase := .stepping })).SameButLines (s.bound n q k) :=
    State.bind_same _ k _
  have line := s.line_bound n q k
  have run := s.run_bound n q k
  have lineSet := State.lineSet_congr (s := s) same.store
  have part : (s.bound n q k).partState = s.partState := same.partState
  have holder (l : LineId) : ((s.bound n q k).line l).holder = (s.line l).holder := by rw [line]; split_ifs <;> rfl
  have term (l : LineId) : ((s.bound n q k).line l).term = (s.line l).term := by rw [line]; split_ifs <;> rfl
  have drive (l : LineId) : ((s.bound n q k).line l).drive = (s.line l).drive := by rw [line]; split_ifs <;> rfl
  have levels (l : LineId) : ((s.bound n q k).line l).levels = (s.line l).levels := by rw [line]; split_ifs <;> rfl
  have binding (l : LineId) : ((s.bound n q k).line l).binding = if l ∈ s.lineSet q then some k else (s.line l).binding := by
    rw [line]; split_ifs <;> rfl
  refine ⟨⟨fun ⟨records, ⟨bindings, runs⟩, load, _⟩ => ⟨fun l => ?_, ⟨fun l j bound => ?_, fun j r known l listed => ?_⟩,
    fun loading => ?_, fun starting => absurd (part ▸ starting) started⟩, fun _ floating hold => ⟨?_, ?_⟩⟩, fun holders => ?_⟩
  · rw [line]
    split_ifs
    · exact (records l).unbind _
    · exact records l
  · rw [Option.mem_def, binding] at bound
    rw [term, holder, run]
    split_ifs at bound with listed
    · obtain rfl := Option.some.inj bound
      obtain ⟨held, noTerm, -⟩ := lines l listed
      rw [if_pos rfl]
      exact ⟨noTerm, _, rfl, held, by rw [lineSet]; exact listed⟩
    · obtain ⟨noTerm, r, known, held, inSet⟩ := bindings l j bound
      have other : j ≠ k := fun e => by
        rw [e, Option.mem_def, idle] at known
        cases known
      rw [if_neg other]
      exact ⟨noTerm, r, known, held, by rw [lineSet]; exact inSet⟩
  · rw [Option.mem_def, run] at known
    rw [lineSet] at listed
    rw [binding]
    split_ifs at known with own
    · obtain rfl := Option.some.inj known
      rw [if_pos listed, own]
    · have bound := runs j r known l listed
      rw [if_neg fun inSet => ?_, bound]
      rw [(lines l inSet).2.2] at bound
      cases bound
  · rw [part]
    rw [same.loader] at loading
    exact load loading
  · exact floating.of_drives (by rw [same.loader]; rfl) fun l => .inl (drive l)
  · exact hold.congr (funext levels) (State.interlocks_bind _ k _)
  · refine holders.of_fewer same.isOpen (fun l m held => .inl ?_) fun e => by rw [same.pendingList]; exact id
    rwa [holder] at held

theorem decideRun_keepsLaws (n : Port) (q : SeqNumber) (started : s.partState ≠ .starting) :
    s.KeepsLaws (decideRun n q s).state := by
  unfold decideRun
  cases s.sequence q with
  | none => exact .refl s
  | some x =>
    dsimp only
    cases slot : s.idleSlot with
    | none => exact .refl s
    | some k =>
      dsimp only
      cases tested : s.firstRefusal (s.lineSet q) (runTests n) with
      | some r => exact .refl s
      | none =>
        have passes := State.firstRefusal_eq_none_iff.mp tested
        have idle : s.run k = none := of_decide_eq_true (Table.lowest_eq_some_iff.mp slot).1
        have bound := State.keepsLaws_bound (n := n) idle started fun l listed =>
          ⟨Line.heldBy_iff.mp (passes (notHolderTest n) (by simp [runTests]) l listed),
            of_decide_eq_true (passes (.hasTerm, fun ln => decide (ln.term = none)) (by simp [runTests]) l listed),
            of_decide_eq_true (passes inSequenceTest (by simp [runTests]) l listed)⟩
        refine bound.trans (State.keepsLaws_beginSteps k _ 1 (State.covers_steps
          (r := { sequence := q, agent := n, step := 1, phase := .stepping }) ?_ ?_))
        · rw [State.run_bound, if_pos rfl]
        · have store : (s.bound n q k).store = s.store := (State.bind_same _ k _).store
          rw [State.steps, State.steps, State.sequence, State.sequence, store]
          exact List.Subset.refl _

theorem decideAbort_keepsLaws (n : Port) (k : SlotId) : s.KeepsLaws (decideAbort n k s).state := by
  unfold decideAbort
  split
  · exact .refl s
  · split_ifs
    · split
      · exact s.keepsLaws_setPhase k _
      · exact s.keepsLaws_haltRun k _
      · exact .refl s
    · exact .refl s

theorem decideAddWatch_keepsLaws (n : Port) (a : WatchArgs) : s.KeepsLaws (decideAddWatch n a s).state := by
  unfold decideAddWatch
  cases s.freeWatch n with
  | none => exact .refl s
  | some id => exact s.keepsLaws_modifyLive n _

theorem decideDropWatch_keepsLaws (n : Port) (id : WatchId) : s.KeepsLaws (decideDropWatch n id s).state := by
  unfold decideDropWatch
  cases s.watch n id with
  | none => exact .refl s
  | some w => exact s.keepsLaws_modifyNotices n _

theorem decideFlash_keepsLaws (n : Port) (work : FlashWork) : s.KeepsLaws (decideFlash n work s).state := by
  unfold decideFlash
  cases s.loader.flashOp with
  | some op => exact .refl s
  | none =>
    rw [Verdict.state]
    exact s.keepsLaws_modifyLoader rfl rfl

theorem decideRestart_keepsLaws : s.KeepsLaws (decideRestart s).state := by
  unfold decideRestart
  cases s.loader.flashOp with
  | some op => exact .refl s
  | none => exact s.keepsLaws_acceptRestart

theorem decideOpen_keepsLaws (n : Port) (a : OpenArgs) : s.KeepsLaws (decideOpen n a s).state := by
  unfold decideOpen
  split_ifs
  · exact .refl s
  · exact (s.keepsLaws_endSession n .reopened).trans (State.keepsLaws_openRecord _ n _ _ _)

end

/-! ### Taking and deciding a request (R171 to R173, R180) -/

theorem Verdict.keepsLaws_settle (v : Verdict) (h : Header) (discarded : Bool) :
    v.state.KeepsLaws (v.settle h discarded) := by
  cases v with
  | done s r =>
    rw [Verdict.settle_done]
    exact s.keepsLaws_modifyPort h.port _
  | accepted s =>
    rw [Verdict.settle]
    exact s.keepsLaws_modifyPort h.port _

section
variable {α : Type} {h : Header} {body : α → State → Verdict}

theorem authorise_keepsLaws {u : State} (right : Right) (args : Option α)
    (keeps : ∀ a, args = some a → u.KeepsLaws (body a u).state) :
    u.KeepsLaws (authorise h right args body u).state := by
  unfold authorise
  split_ifs
  · cases args with
    | none => exact .refl u
    | some a => exact keeps a rfl
  · exact .refl u

/-- A request keeps the laws where its own decision does, in the part states that serve it and, where its rule asks for
one, for an agent with an open session. -/
theorem checked_keepsLaws {service : Service} (rule : SessionRule) (right : Right) (args : Option α)
    (keeps : ∀ a (u : State), args = some a → service.refusal u.partState = none →
      (rule = .required → u.isOpen h.port = true) → u.KeepsLaws (body a u).state) (u : State) :
    u.KeepsLaws (checked h service rule right args body u).state := by
  have alive : u.KeepsLaws (u.keepalive h.port) := u.keepsLaws_modifyLive h.port _
  unfold checked
  cases served : service.refusal u.partState with
  | some o => exact .refl u
  | none =>
    cases rule with
    | exempt => exact authorise_keepsLaws right args fun a given => keeps a u given served nofun
    | exemptKeepalive =>
      dsimp only
      split_ifs
      · exact alive.trans (authorise_keepsLaws right args fun a given => keeps a _ given served nofun)
      · exact authorise_keepsLaws right args fun a given => keeps a u given served nofun
    | required =>
      dsimp only
      split_ifs with isOpen
      · refine alive.trans (authorise_keepsLaws right args fun a given => keeps a _ given served fun _ => ?_)
        rwa [State.keepalive_isOpen]
      · exact .refl u
      · exact .refl u

end

theorem State.keepsLaws_serve (s : State) (h : Header) (length : Nat) {judge : State → Verdict}
    (keeps : ∀ u : State, u.KeepsLaws (judge u).state) : s.KeepsLaws (s.serve h length judge) := by
  unfold State.serve
  split_ifs
  · exact s.keepsLaws_modifyPort h.port _
  · exact ((s.keepsLaws_modifyPort h.port _).trans (keeps _)).trans (Verdict.keepsLaws_settle _ h _)
  · exact .refl s

/-- A request whose own decision keeps the laws in every state keeps them. -/
theorem State.keepsLaws_request (s : State) (h : Header) (length : Nat) (service : Service) (rule : SessionRule)
    (right : Right) {α : Type} (args : Option α) {body : α → State → Verdict}
    (keeps : ∀ a (u : State), u.KeepsLaws (body a u).state) :
    s.KeepsLaws (s.serve h length (checked h service rule right args body)) :=
  s.keepsLaws_serve h length (checked_keepsLaws rule right args fun a u _ _ _ => keeps a u)

/-- R155: a request that only READY serves is decided past STARTING. -/
theorem Service.started_of_readyOnly {p : PartState} (served : Service.readyOnly.refusal p = none) : p ≠ .starting := by
  cases p <;> simp_all [Service.refusal]

/-! ### The outcome of a command -/

/-- Where the outcome is a next state, it keeps the laws. -/
def State.OutcomeKeepsLaws (s : State) : Host.Outcome State Fault Refusal → Prop
  | .next t => s.KeepsLaws t
  | .fault _ => True
  | .refused _ => True

section
variable (s : State)

theorem execClaim_keepsLaws (h : Header) (target : RawTarget) (patience : BitVec 16) (term : BitVec 32) (drive : RawDrive)
    (urgency : Byte) : s.OutcomeKeepsLaws (execClaim h target patience term drive urgency s) :=
  s.keepsLaws_serve h 11 (checked_keepsLaws .required _ _ fun a _ _ served isOpen =>
    decideClaim_keepsLaws h.port a (Service.started_of_readyOnly served) (isOpen rfl))

/-- R33, R180: an heir equal to the requester is no argument. -/
theorem setHeirArgs_other {requester : Port} {line heir : Byte} {a : LineId × Option Port}
    (args : setHeirArgs requester line heir = some a) : a.2 ≠ some requester := by
  obtain ⟨l, -, chosen⟩ := Option.bind_eq_some_iff.mp args
  obtain ⟨x, -, checked⟩ := Option.bind_eq_some_iff.mp chosen
  split_ifs at checked with same
  cases checked
  exact same

theorem execSetHeir_keepsLaws (h : Header) (line heir : Byte) : s.OutcomeKeepsLaws (execSetHeir h line heir s) :=
  s.keepsLaws_serve h 2 (checked_keepsLaws .required _ _ fun a _ args _ _ =>
    decideSetHeir_keepsLaws h.port a (setHeirArgs_other args))

theorem execRun_keepsLaws (h : Header) (number : Byte) : s.OutcomeKeepsLaws (execRun h number s) :=
  s.keepsLaws_serve h 1 (checked_keepsLaws .required _ _ fun q _ _ served _ =>
    decideRun_keepsLaws h.port q (Service.started_of_readyOnly served))

theorem execOpen_keepsLaws (h : Header) (period : BitVec 16) (limit mask : Byte) (sensed : Level) :
    s.OutcomeKeepsLaws (execOpen h period limit mask sensed s) :=
  (s.keepsLaws_sense h.port sensed).trans
    (State.keepsLaws_request _ h _ _ _ _ _ fun a _ => decideOpen_keepsLaws h.port a)

/-! ### Transactions and the presence inputs -/

theorem execBadFrame_keepsLaws (n : Port) (seq : Option Byte) (cause : FrameFault) (received : Nat) :
    s.OutcomeKeepsLaws (execBadFrame n seq cause received s) := by
  have ignored : s.KeepsLaws (s.ignoreFrame n) := s.keepsLaws_modifyPort n _
  have decoded (u : State) (p : Decoder × Nat) : u.KeepsLaws (u.setDecoder n p) := u.keepsLaws_modifyPort n _
  have refused : s.KeepsLaws (s.refuseFrame n seq cause received) :=
    ((s.keepsLaws_modifyPort n _).trans (State.keepsLaws_modifyPort _ n _)).trans (decoded _ _)
  exact State.KeepsLaws.ite (fun _ => .ite (fun _ => ignored.trans (decoded _ _)) fun _ => refused)
    fun _ => .refl s

theorem execResponseConsumed_keepsLaws (n : Port) : s.OutcomeKeepsLaws (execResponseConsumed n s) := by
  rw [execResponseConsumed, State.OutcomeKeepsLaws]
  split
  · exact .refl s
  · exact s.keepsLaws_modifyPort n _

theorem State.keepsLaws_losePresence (n : Port) (midFrame : Bool) : s.KeepsLaws (s.losePresence n midFrame) := by
  unfold State.losePresence
  split_ifs
  · cases s.partState with
    | starting => exact .refl s
    | ready => exact (s.keepsLaws_modifyPort n _).trans (State.keepsLaws_endSession _ n .presence)
    | degraded => exact s.keepsLaws_endSession n .presence
  · exact .refl s

theorem execPresenceFall_keepsLaws (n : Port) (midFrame : Bool) : s.OutcomeKeepsLaws (execPresenceFall n midFrame s) := by
  have sensed := s.keepsLaws_sense n false
  exact State.KeepsLaws.ite (fun _ => sensed) fun _ => sensed.trans (State.keepsLaws_losePresence _ n midFrame)

/-! ### The events, each of which acts where it is due (log 6) -/

theorem State.load_eq_of_loading {r : LoadRun} (loading : s.loading = some r) : s.loader.load = some r := by
  unfold State.loading at loading
  split_ifs at loading
  exact loading

theorem execLoadEnd_keepsLaws : s.OutcomeKeepsLaws (execLoadEnd s) := by
  rw [execLoadEnd, State.OutcomeKeepsLaws]
  cases loading : s.loading with
  | none => exact .refl s
  | some r => exact State.keepsLaws_finishLoad (s.load_eq_of_loading loading)

theorem execLoadStatusTimeout_keepsLaws : s.OutcomeKeepsLaws (execLoadStatusTimeout s) := by
  rw [execLoadStatusTimeout, State.OutcomeKeepsLaws]
  cases timeout : s.loadTimeout with
  | none => exact .refl s
  | some r =>
    obtain ⟨r', loading, taken⟩ := Option.bind_eq_some_iff.mp timeout
    obtain ⟨-, same⟩ := Option.ite_none_right_eq_some.mp taken
    obtain rfl := Option.some.inj same
    exact State.keepsLaws_abandonLoad (s.load_eq_of_loading loading)

/-- R1, R2: what is sensed of a line is none of what the laws read. -/
theorem Line.alike_sensed (ln : Line) (level : Level) (deadline : LineTime) :
    ln.Alike ((ln.sensed level).checkLevel deadline) := by
  have sensed : ln.Alike (ln.sensed level) := ⟨rfl, by rw [Line.sensed, Line.followed_keeper_isSome]⟩
  generalize ln.sensed level = x at sensed
  obtain ⟨rest, keeper⟩ := sensed
  unfold Line.checkLevel
  split
  · exact ⟨rest, keeper⟩
  · split_ifs
    · exact ⟨rest, keeper⟩
    · refine ⟨?_, keeper⟩
      rw [rest]
  · split_ifs
    · refine ⟨?_, keeper⟩
      rw [rest]
    · exact ⟨rest, keeper⟩

theorem State.keepsLaws_observe (l : LineId) (level : Level) : s.KeepsLaws (s.observe l level) := by
  have sensed : s.KeepsLaws (s.senseLine l level) := by
    refine .of_alike rfl fun m => ?_
    rw [State.senseLine, State.line_modifyLine]
    split_ifs with same
    · rw [same]
      exact Line.alike_sensed _ _ _
    · exact .refl _
  have watched := sensed.trans (.foldl (op := fun u n => u.watchLine l level n)
    (fun u n => u.keepsLaws_modifyNotices n _) (List.finRange 3) _)
  exact watched.trans (.of_same rfl rfl)

theorem execStageEnd_keepsLaws (l : LineId) : s.OutcomeKeepsLaws (execStageEnd l s) := by
  rw [execStageEnd, State.OutcomeKeepsLaws]
  split
  · exact .refl s
  · next m due =>
    obtain ⟨m', move, taken⟩ := Option.bind_eq_some_iff.mp due
    obtain ⟨-, same⟩ := Option.ite_none_right_eq_some.mp taken
    obtain rfl := Option.some.inj same
    exact State.keepsLaws_endStage move

theorem execTermDeadline_keepsLaws (l : LineId) : s.OutcomeKeepsLaws (execTermDeadline l s) := by
  refine State.KeepsLaws.ite (fun due => s.keepsLaws_reachTerm l ?_) fun _ => .refl s
  obtain ⟨term, -, -⟩ := of_decide_eq_true due
  rw [term, Option.isSome_some]

theorem execPatienceDeadline_keepsLaws (n : Port) (k : TicketId) : s.OutcomeKeepsLaws (execPatienceDeadline n k s) := by
  rw [execPatienceDeadline, State.OutcomeKeepsLaws]
  split
  · exact .refl s
  · exact s.keepsLaws_removeEntry_setTicket _ _ _

theorem State.keepsLaws_passPeriod (n : Port) : s.KeepsLaws (s.passPeriod n) := by
  unfold State.passPeriod
  dsimp only
  split
  · exact .refl s
  · split_ifs
    · exact s.keepsLaws_modifyLive n _
    · exact s.keepsLaws_modifyLive n _
    · exact s.keepsLaws_endSession n .keepalive

theorem execFilterDeadline_keepsLaws (n : Port) (id : WatchId) : s.OutcomeKeepsLaws (execFilterDeadline n id s) := by
  rw [execFilterDeadline, State.OutcomeKeepsLaws]
  split
  · exact .refl s
  · exact s.keepsLaws_modifyNotices n _

theorem execWakeFilterDeadline_keepsLaws (k : Fin 8) : s.OutcomeKeepsLaws (execWakeFilterDeadline k s) := by
  rw [execWakeFilterDeadline, State.OutcomeKeepsLaws]
  split
  · exact .refl s
  · unfold State.takeWake
    dsimp only
    split_ifs
    · exact .of_same rfl rfl
    · exact .of_same rfl rfl

/-! ### Flash work and its ends (R160 to R165) -/

theorem State.keepsLaws_answerFlash (n : Port) (reply : Reply) : s.KeepsLaws (s.answerFlash n reply) := by
  unfold State.answerFlash
  cases (s.port n).request with
  | none => exact .refl s
  | some r =>
    exact ((s.keepsLaws_modifyPort n _).trans (State.keepsLaws_modifyPort _ n _)).trans (State.keepsLaws_modifyLive _ n _)

variable (op : FlashOp)

theorem State.keepsLaws_endFlash (reply : Reply) : s.KeepsLaws (s.endFlash op reply) :=
  (s.keepsLaws_modifyLoader (f := fun r => { r with flashOp := none }) rfl rfl).trans
    (State.keepsLaws_answerFlash _ op.port reply)

theorem State.keepsLaws_setSpare (x : SpareState) : s.KeepsLaws (s.setSpare x) := s.keepsLaws_modifyLoader rfl rfl

theorem State.keepsLaws_leave (m : List Host.Cell) (left : FlashCells) : s.KeepsLaws (s.leave op m left) :=
  .of_same rfl rfl

theorem State.keepsLaws_failFlash (failure : FlashFailure) : s.KeepsLaws (s.failFlash op failure) :=
  (s.keepsLaws_modifyLoader (f := fun r => { r with lastFailure := some (failure, s.lineTime) }) rfl rfl).trans
    (State.keepsLaws_endFlash _ op _)

theorem State.keepsLaws_damage (failure : FlashFailure) : s.KeepsLaws (s.damage op failure) :=
  (s.keepsLaws_setSpare .damaged).trans (State.keepsLaws_failFlash _ op failure)

theorem State.keepsLaws_leave_damage (m : List Host.Cell) (left : FlashCells) (failure : FlashFailure) :
    s.KeepsLaws ((s.leave op m left).damage op failure) :=
  (s.keepsLaws_leave op m left).trans (State.keepsLaws_damage _ op failure)

theorem State.keepsLaws_endErase (left : FlashCells) : s.KeepsLaws (s.endErase op left) := by
  have erased := s.keepsLaws_leave op (runCommands (eraseCommands s.loader.spare) s.flash) left
  unfold State.endErase
  dsimp only
  split_ifs
  · exact (erased.trans (State.keepsLaws_setSpare _ .erased)).trans (State.keepsLaws_endFlash _ op _)
  · exact erased.trans (State.keepsLaws_damage _ op _)

theorem State.keepsLaws_endWrite (offset : Nat) (data : List Byte) (left : FlashCells) :
    s.KeepsLaws (s.endWrite op offset data left) := by
  have written := s.keepsLaws_leave op
    (runCommands (programCommands (s.loader.spare.base + offset) data) s.flash) left
  unfold State.endWrite
  dsimp only
  split_ifs
  · exact (written.trans (State.keepsLaws_setSpare _ .writing)).trans (State.keepsLaws_endFlash _ op _)
  · exact written.trans (State.keepsLaws_damage _ op _)

theorem State.keepsLaws_committed : s.KeepsLaws (s.committed op) :=
  (s.keepsLaws_setSpare .committed).trans (State.keepsLaws_endFlash _ op _)

theorem State.keepsLaws_endCommit (left : FlashCells) : s.KeepsLaws (s.endCommit op left) := by
  unfold State.endCommit
  split
  · exact s.keepsLaws_endFlash op _
  · split_ifs
    · exact s.keepsLaws_committed op
    · unfold State.programMarker
      dsimp only
      split_ifs
      · exact (s.keepsLaws_leave op _ left).trans (State.keepsLaws_committed _ op)
      · exact s.keepsLaws_leave_damage op _ left _

variable {s}

/-- What ends a flash operation of one kind ends that in progress, where it is of that kind. -/
theorem execEraseEnd_keepsLaws (left : FlashCells) : s.OutcomeKeepsLaws (execEraseEnd left s) := by
  rw [execEraseEnd, State.OutcomeKeepsLaws]
  split
  · exact .refl s
  · split
    · exact s.keepsLaws_endErase _ left
    all_goals exact .refl s

theorem execEraseTimeout_keepsLaws (wait : FlashWait) : s.OutcomeKeepsLaws (execEraseTimeout wait s) := by
  rw [execEraseTimeout, State.OutcomeKeepsLaws]
  split
  · exact .refl s
  · split
    · exact s.keepsLaws_leave_damage _ _ wait.left _
    all_goals exact .refl s

theorem execWriteEnd_keepsLaws (left : FlashCells) : s.OutcomeKeepsLaws (execWriteEnd left s) := by
  rw [execWriteEnd, State.OutcomeKeepsLaws]
  split
  · exact .refl s
  · split
    · exact s.keepsLaws_endWrite _ _ _ left
    all_goals exact .refl s

theorem execProgramTimeout_keepsLaws (wait : FlashWait) : s.OutcomeKeepsLaws (execProgramTimeout wait s) := by
  rw [execProgramTimeout, State.OutcomeKeepsLaws]
  split
  · exact .refl s
  · split
    · exact s.keepsLaws_leave_damage _ _ wait.left _
    · exact .ite (fun _ => s.keepsLaws_leave_damage _ _ wait.left _) fun _ => .refl s
    all_goals exact .refl s

theorem execCommitEnd_keepsLaws (left : FlashCells) : s.OutcomeKeepsLaws (execCommitEnd left s) := by
  rw [execCommitEnd, State.OutcomeKeepsLaws]
  split
  · exact .refl s
  · split
    · exact s.keepsLaws_endCommit _ left
    all_goals exact .refl s

theorem execReadEnd_keepsLaws : s.OutcomeKeepsLaws (execReadEnd s) := by
  rw [execReadEnd, State.OutcomeKeepsLaws]
  split
  · exact .refl s
  · split
    · exact s.keepsLaws_endFlash _ _
    all_goals exact .refl s

theorem execFlashStatusBusy_keepsLaws : s.OutcomeKeepsLaws (execFlashStatusBusy s) := by
  rw [execFlashStatusBusy, State.OutcomeKeepsLaws]
  split
  · exact .refl s
  · exact s.keepsLaws_failFlash _ _

end

/-! ### Every command, the part's clock and every step -/

theorem exec_keepsLaws (s : State) : ∀ i : Instr, s.OutcomeKeepsLaws (exec i s)
  | .openSession h p l m v => execOpen_keepsLaws s h p l m v
  | .closeSession h => s.keepsLaws_request h _ _ _ _ _ fun _ u => u.keepsLaws_endSession h.port .closed
  | .tick h => s.keepsLaws_request h _ _ _ _ _ fun _ => .refl
  | .setMask h _ => s.keepsLaws_request h _ _ _ _ _ fun _ u => u.keepsLaws_modifyNotices h.port _
  | .status h => s.keepsLaws_request h _ _ _ _ _ fun _ => .refl
  | .identify h => s.keepsLaws_request h _ _ _ _ _ fun _ => .refl
  | .claim h t p e d u => execClaim_keepsLaws s h t p e d u
  | .cancel h _ => s.keepsLaws_request h _ _ _ _ _ fun k _ => decideCancel_keepsLaws h.port k
  | .release h _ => s.keepsLaws_request h _ _ _ _ _ fun t _ => decideRelease_keepsLaws h.port t
  | .setDrives h _ => s.keepsLaws_request h _ _ _ _ _ fun es _ => decideSet_keepsLaws h.port es
  | .setHeir h l a => execSetHeir_keepsLaws s h l a
  | .extend h .. => s.keepsLaws_request h _ _ _ _ _ fun a _ => decideExtend_keepsLaws h.port a
  | .clearFault h _ => s.keepsLaws_request h _ _ _ _ _ fun l _ => decideClearFault_keepsLaws h.port l
  | .snapshot h => s.keepsLaws_request h _ _ _ _ _ fun _ => .refl
  | .inspect h _ => s.keepsLaws_request h _ _ _ _ _ fun _ => .refl
  | .addInterlock h .. => s.keepsLaws_request h _ _ _ _ _ fun r _ => decideAddInterlock_keepsLaws h.port r
  | .dropInterlock h _ => s.keepsLaws_request h _ _ _ _ _ fun k _ => decideDropInterlock_keepsLaws k
  | .listInterlocks h => s.keepsLaws_request h _ _ _ _ _ fun _ => .refl
  | .storeSequence h .. => s.keepsLaws_request h _ _ _ _ _ fun a _ => decideStore_keepsLaws a
  | .dropSequence h _ => s.keepsLaws_request h _ _ _ _ _ fun q _ => decideDropSequence_keepsLaws q
  | .runSequence h q => execRun_keepsLaws s h q
  | .abortRun h _ => s.keepsLaws_request h _ _ _ _ _ fun k _ => decideAbort_keepsLaws h.port k
  | .addWatch h .. => s.keepsLaws_request h _ _ _ _ _ fun a _ => decideAddWatch_keepsLaws h.port a
  | .dropWatch h _ => s.keepsLaws_request h _ _ _ _ _ fun id _ => decideDropWatch_keepsLaws h.port id
  | .notices h => s.keepsLaws_request h _ _ _ _ _ fun _ => .refl
  | .ack h _ => s.keepsLaws_request h _ _ _ _ _ fun _ u => u.keepsLaws_modifyNotices h.port _
  | .profileRead h .. => s.keepsLaws_request h _ _ _ _ _ fun w _ => decideFlash_keepsLaws h.port w
  | .profileErase h => s.keepsLaws_request h _ _ _ _ _ fun w _ => decideFlash_keepsLaws h.port w
  | .profileWrite h .. => s.keepsLaws_request h _ _ _ _ _ fun w _ => decideFlash_keepsLaws h.port w
  | .profileCommit h => s.keepsLaws_request h _ _ _ _ _ fun w _ => decideFlash_keepsLaws h.port w
  | .restart h => s.keepsLaws_request h _ _ _ _ _ fun _ _ => decideRestart_keepsLaws
  | .badFrame n q c r => execBadFrame_keepsLaws s n q c r
  | .badRequest h _ _ => s.keepsLaws_serve h _ .refl
  | .requestIgnored n => State.KeepsLaws.ite (fun _ => s.keepsLaws_modifyPort n _) fun _ => .refl s
  | .collect n => State.KeepsLaws.ite (fun _ => s.keepsLaws_modifyPort n _) fun _ => .refl s
  | .responseConsumed n => execResponseConsumed_keepsLaws s n
  | .presenceFall n m => execPresenceFall_keepsLaws s n m
  | .resetLow left => s.keepsLaws_resetAll left
  | .resetRelease v left => s.keepsLaws_resetRelease left v
  | .loadEnd => execLoadEnd_keepsLaws s
  | .loadStatusTimeout => execLoadStatusTimeout_keepsLaws s
  | .observedLevelChange l v => State.KeepsLaws.ite (fun _ => .refl s) fun _ => s.keepsLaws_observe l v
  | .stageEnd l => execStageEnd_keepsLaws s l
  | .readbackDeadline l => State.KeepsLaws.ite (fun _ => s.keepsLaws_fireReadback l) fun _ => .refl s
  | .termDeadline l => execTermDeadline_keepsLaws s l
  | .patienceDeadline n k => execPatienceDeadline_keepsLaws s n k
  | .periodDeadline n => State.KeepsLaws.ite (fun _ => s.keepsLaws_passPeriod n) fun _ => .refl s
  | .holdDeadline k => State.KeepsLaws.ite (fun _ => s.keepsLaws_endHold k) fun _ => .refl s
  | .filterDeadline n id => execFilterDeadline_keepsLaws s n id
  | .wakeFilterDeadline k => execWakeFilterDeadline_keepsLaws s k
  | .eraseEnd left => execEraseEnd_keepsLaws left
  | .eraseTimeout wait => execEraseTimeout_keepsLaws wait
  | .writeEnd left => execWriteEnd_keepsLaws left
  | .programTimeout wait => execProgramTimeout_keepsLaws wait
  | .commitEnd left => execCommitEnd_keepsLaws left
  | .readEnd => execReadEnd_keepsLaws
  | .selectRelease n => State.KeepsLaws.ite (fun _ => .refl s) fun _ => s.keepsLaws_modifyPort n _
  | .ignoredTransaction n => State.KeepsLaws.ite (fun _ => s.keepsLaws_modifyPort n _) fun _ => .refl s
  | .flashStatusBusy => execFlashStatusBusy_keepsLaws

theorem State.OutcomeKeepsLaws.after {s u : State} {o : Host.Outcome State Fault Refusal} (before : s.KeepsLaws u)
    (keeps : u.OutcomeKeepsLaws o) : s.OutcomeKeepsLaws o := by
  cases o with
  | next t => exact before.trans keeps
  | fault r => trivial
  | refused r => trivial

theorem State.keepsLaws_nextDue {s u : State} {c : Instr} (due : s.nextDue = some (c, u)) : s.KeepsLaws u := by
  unfold State.nextDue at due
  split at due
  · cases due
  · obtain ⟨rfl, rfl⟩ := due
    exact .refl s
  · obtain ⟨rfl, rfl⟩ := due
    exact .of_same rfl rfl

/-- R1: a microsecond that passes changes nothing of a line but the level of its keeper. -/
theorem State.keepsLaws_pass (s : State) : s.KeepsLaws s.pass :=
  .of_alike rfl fun l => by
    rw [State.line_pass]
    exact ⟨rfl, Line.followed_keeper_isSome _⟩

theorem idle_keepsLaws (s : State) : s.OutcomeKeepsLaws (idle s) := by
  unfold idle
  split_ifs
  · exact State.KeepsLaws.refl s
  · split
    · exact s.keepsLaws_pass
    · next c u due => exact (exec_keepsLaws u c).after (State.keepsLaws_nextDue due)

theorem step_keepsLaws {s t : State} (next : step s = .next t) : s.KeepsLaws t := by
  have keeps : s.OutcomeKeepsLaws (step s) := by
    unfold step
    split
    · next c rest _ =>
      have taken : s.KeepsLaws { s with pending := rest } := .of_same rfl rfl
      exact (exec_keepsLaws _ c).after taken
    · exact idle_keepsLaws s
  rwa [next] at keeps

/-- Settles O56: each operation rewrites the lines that it touches into coherent records and keeps their bindings, or
ends a run together with them. -/
theorem everyStepKeepsTheRecordsCoherent : Obligations.EveryStepKeepsTheRecordsCoherent :=
  fun _ _ coherent next => (step_keepsLaws next).coherent coherent

/-- Settles O57: a line comes to an agent by a grant or by inheritance, each to an open session, and the session that
ends has lost its lines and its claims before. -/
theorem everyStepKeepsHoldersOpen : Obligations.EveryStepKeepsHoldersOpen :=
  fun _ _ holders next => (step_keepsLaws next).holders holders

/-- Settles O58: what the lines assert grows only by a move that admission grants, or at the end of a load, by the
fallbacks of an image and by what its rebuilt table is settled to. -/
theorem noStepMatchesAnInterlockRule : Obligations.NoStepMatchesAnInterlockRule :=
  fun _ _ coherent floating hold next => (step_keepsLaws next).rules coherent floating hold

end Sys2Proof.Machine

/-! PROOFS: CLAIM, granted at once (O18), waiting (O19) and refused (O20). The lowest line that fails a record test is
what `find?` gives on lines in line order. -/

namespace Sys2Proof.Machine

/-! ### The first record test that fails (R28) -/

theorem find?_eq_some_of_lowest {ls : List LineId} {p : LineId → Bool} {l : LineId} (sorted : ls.Pairwise (· < ·))
    (listed : l ∈ ls) (passes : p l = true) (below : ∀ m ∈ ls, m < l → p m = false) : ls.find? p = some l := by
  induction ls with
  | nil => cases listed
  | cons x rest ih =>
    obtain ⟨first, sorted⟩ := List.pairwise_cons.mp sorted
    obtain rfl | later := List.mem_cons.mp listed
    · exact List.find?_cons_of_pos passes
    · have fails : ¬ p x = true := Bool.not_eq_true _ ▸ below x List.mem_cons_self (first l later)
      rw [List.find?_cons_of_neg fails]
      exact ih sorted later fun m known => below m (List.mem_cons_of_mem x known)

section
variable {s : State} {ls : List LineId} {test : Line → Bool} {l : LineId}

theorem State.firstFailing_of_lowest (listed : l ∈ ls) (fails : test (s.line l) = false)
    (below : ∀ m ∈ ls, m < l → test (s.line m) = true) : s.firstFailing ls test = some l :=
  find?_eq_some_of_lowest (pairwise_ascending ls) (mem_ascending.mpr listed) (by rw [fails]; rfl)
    fun m known before => by rw [below m (mem_ascending.mp known) before]; rfl

/-- R28: a test that every line passes leaves the refusal to the tests after it. -/
theorem State.firstRefusal_cons_of_pass (o : ReqOutcome) (rest : List (ReqOutcome × (Line → Bool)))
    (passes : ∀ m ∈ ls, test (s.line m) = true) : s.firstRefusal ls ((o, test) :: rest) = s.firstRefusal ls rest := by
  rw [State.firstRefusal_cons, State.firstFailing_eq_none_iff.mpr passes]

theorem State.firstRefusal_cons_of_lowest (o : ReqOutcome) (rest : List (ReqOutcome × (Line → Bool)))
    (listed : l ∈ ls) (fails : test (s.line l) = false) (below : ∀ m ∈ ls, m < l → test (s.line m) = true) :
    s.firstRefusal ls ((o, test) :: rest) = some (Reply.of o (.line l)) := by
  rw [State.firstRefusal_cons, State.firstFailing_of_lowest listed fails below]

end

theorem heldBy_eq_false {ln : Line} {n : Port} (other : ¬ ln.holder = .agent n) : ln.heldBy n = false :=
  decide_eq_false other

/-! ### CLAIM (R67 to R72) -/

theorem exec_claim (h : Header) (target : RawTarget) (patience : BitVec 16) (term : BitVec 32) (drive : RawDrive)
    (urgency : Byte) (s : State) :
    exec (.claim h target patience term drive urgency) s = execClaim h target patience term drive urgency s := rfl

section
variable {h : Header} {target : RawTarget} {patience : BitVec 16} {term : BitVec 32} {drive : RawDrive}
  {urgency : Byte} {a : ClaimArgs} {s : State}

theorem exec_claim_heard {u : State} {r : Reply} (hears : s.Hears h .readyOnly (claimRight urgency))
    (args : claimArgs target patience term drive urgency = some a)
    (decided : decideClaim h.port a (s.heard h 11) = .done u r) :
    exec (.claim h target patience term drive urgency) s = .next (u.answered s h r) := by
  rw [exec_claim, execClaim, args, State.serve_heard hears decided]

end

section
variable {s : State} {n : Port} {a : ClaimArgs} {t : Target}

theorem decideClaim_notFound (undefined : s.resolve a.target = none) :
    decideClaim n a s = .done s (Reply.bare .notFound) := by
  rw [decideClaim, undefined]

theorem decideClaim_refused {r : Reply} (resolved : s.resolve a.target = some t)
    (refused : s.firstRefusal t.lines (claimTests n) = some r) : decideClaim n a s = .done s r := by
  simp only [decideClaim, resolved, refused]

/-- R68: the lines of a claim that no record test refuses are neither pinned nor held by the requester. -/
theorem State.firstRefusal_claimTests {ls : List LineId}
    (passes : ∀ l ∈ ls, (s.line l).static.pinned = false ∧ (s.line l).holder ≠ .agent n) :
    s.firstRefusal ls (claimTests n) = none := by
  refine (State.firstRefusal_cons_of_pass _ _ fun l listed => ?_).trans
    (State.firstRefusal_cons_of_pass _ _ fun l listed => ?_)
  · rw [(passes l listed).1]; rfl
  · rw [heldBy_eq_false (passes l listed).2]; rfl

theorem State.allFree_eq_true {ls : List LineId} (free : ∀ l ∈ ls, (s.line l).state = .free) : s.allFree ls = true :=
  List.all_eq_true.mpr fun l listed => decide_eq_true (free l listed)

theorem State.allFree_eq_false {ls : List LineId} (busy : ∃ l ∈ ls, (s.line l).state ≠ .free) :
    s.allFree ls = false := by
  obtain ⟨l, listed, notFree⟩ := busy
  exact List.all_eq_false.mpr ⟨l, listed, by rw [decide_eq_false notFree]; exact Bool.false_ne_true⟩

/-- R69: a claim whose lines are all FREE is granted at this event, or refused where its initial drive is. -/
theorem decideClaim_allFree (resolved : s.resolve a.target = some t)
    (passes : ∀ l ∈ t.lines, (s.line l).static.pinned = false ∧ (s.line l).holder ≠ .agent n ∧ (s.line l).state = .free) :
    decideClaim n a s = s.grantNow n t a := by
  have tests := State.firstRefusal_claimTests (s := s) (n := n) fun l listed => ⟨(passes l listed).1, (passes l listed).2.1⟩
  have free := State.allFree_eq_true fun l listed => (passes l listed).2.2
  simp only [decideClaim, resolved, tests, free, if_true]

theorem decideClaim_busy (resolved : s.resolve a.target = some t)
    (passes : ∀ l ∈ t.lines, (s.line l).static.pinned = false ∧ (s.line l).holder ≠ .agent n)
    (busy : ∃ l ∈ t.lines, (s.line l).state ≠ .free) :
    decideClaim n a s = if a.patience = 0 then .done s (s.claimRefusal t) else s.claimWaits n t a := by
  simp only [decideClaim, resolved, State.firstRefusal_claimTests passes, State.allFree_eq_false busy,
    Bool.false_eq_true, if_false]

theorem State.grantNow_noDrive (noDrive : a.drive = none) :
    s.grantNow n t a = .done (s.grantLines n a.term t.lines) (Reply.of .granted (.lineTime s.lineTime)) := by
  rw [State.grantNow, noDrive]

theorem State.grantNow_driven {d : Drive} {u : State} (drive : a.drive = some d)
    (driven : (s.grantLines n a.term t.lines).driveAll (proposals t.lines d) = .ok u) :
    s.grantNow n t a = .done u (Reply.of .granted (.lineTime s.lineTime)) := by
  simp only [State.grantNow, drive, driven]

theorem State.grantNow_refused {d : Drive} {slot : RuleSlot} {l : LineId} (drive : a.drive = some d)
    (refused : (s.grantLines n a.term t.lines).driveAll (proposals t.lines d) = .error (slot, l)) :
    s.grantNow n t a = .done s (Reply.of .interlock (.interlock slot l)) := by
  simp only [State.grantNow, drive, refused]

/-- R54, R69: the lines of a grant with its initial drive. -/
theorem State.line_grantLines_driveAll {d : Drive} {term : Option Nat} {ls : List LineId} {u : State}
    (driven : (s.grantLines n term ls).driveAll (proposals ls d) = .ok u) (l : LineId) :
    u.line l = if l ∈ ls then ((s.line l).granted n term s.lineTime).driven d s.lineTime else s.line l := by
  have time : (s.grantLines n term ls).lineTime = s.lineTime := (s.grantLines_same n term ls).lineTime
  have granted := s.line_grantLines n term ls l
  split_ifs at granted ⊢ with listed
  · have distinct : ((proposals ls d).map (·.1)).Nodup := by
      rw [proposals_lines]
      exact nodup_ascending ls
    rw [State.line_driveAll _ driven distinct (e := (l, d)) (mem_proposals.mpr ⟨listed, rfl⟩), granted, time]
  · rw [State.line_driveAll_other _ _ u l driven, granted]
    rw [proposals_lines, mem_ascending]
    exact listed

end

/-- Settles O18: the decision is `grantNow` in the state heard; with no drive that is `grantLines`, with one it is
`driveAll` on the lines granted. -/
theorem claimOfFreeLinesIsGranted : Obligations.ClaimOfFreeLinesIsGranted := by
  unfold Obligations.ClaimOfFreeLinesIsGranted
  refine ⟨driveAllAdmitsInOrder, fun h target patience term drive urgency a t s hears args resolved noDrive free => ?_,
    fun h target patience term drive urgency a t d s hears args resolved drives free => ⟨fun slot l refused => ?_,
      fun u driven => ?_⟩⟩
  all_goals have decided := decideClaim_allFree (s := s.heard h 11) (n := h.port) resolved free
  · rw [State.grantNow_noDrive noDrive] at decided
    exact ⟨_, ((s.heard h 11).grantLines_same h.port a.term t.lines).onlyLines, State.interlocks_grantLines _ _ _ _,
      State.line_grantLines _ _ _ _, exec_claim_heard hears args decided⟩
  · rw [State.grantNow_refused drives refused] at decided
    exact exec_claim_heard hears args decided
  · rw [State.grantNow_driven drives driven] at decided
    exact ⟨(((s.heard h 11).grantLines_same h.port a.term t.lines).trans (State.driveAll_same _ _ u driven)).onlyLines,
      State.line_grantLines_driveAll (s := s.heard h 11) driven, exec_claim_heard hears args decided⟩

section
variable {s : State} {n : Port} {a : ClaimArgs} {t : Target} {v : Live}

theorem State.idleTicket_of_live (live : s.live n = some v) :
    s.idleTicket n = Table.lowest v.tickets fun x => decide (x = .idle) := by
  rw [State.idleTicket, live, Option.bind_some]

theorem State.claimWaits_noTicket (live : s.live n = some v) (taken : ∀ k, v.tickets.get k ≠ .idle) :
    s.claimWaits n t a = .done s (Reply.bare .noTicket) := by
  have none : s.idleTicket n = none := by
    rw [State.idleTicket_of_live live, Table.lowest_eq_none_iff]
    exact fun k => by simpa using taken k
  rw [State.claimWaits, none]

/-- R71, R77: a claim that waits takes the lowest IDLE ticket and joins the list. -/
theorem State.claimWaits_ticket {k : TicketId} (live : s.live n = some v) (idle : v.tickets.get k = .idle)
    (lowest : ∀ j, j < k → v.tickets.get j ≠ .idle) :
    s.claimWaits n t a = .done { s with
      sessions := s.sessions.set n { s.session n with live := some { v with tickets := v.tickets.set k (.waiting t) } }
      attention := s.attention.set n { v with tickets := v.tickets.set k (.waiting t) }.alerts
      pendingList := insertEntry (waitingEntry n k t a s.lineTime (s.afterMs a.patience)) s.pendingList }
      (Reply.of .waiting (.waiting k s.lineTime)) := by
  have ticket : s.idleTicket n = some k := by
    rw [State.idleTicket_of_live live, Table.lowest_eq_some_iff]
    exact ⟨decide_eq_true idle, fun j before => by simpa using lowest j before⟩
  rw [State.claimWaits, ticket]
  exact congrArg (Verdict.done · _) (State.setTicket_of_live (s := { s with
    pendingList := insertEntry (waitingEntry n k t a s.lineTime (s.afterMs a.patience)) s.pendingList }) k _ live)

theorem insertEntry_eq (e : Entry) (list : List Entry) :
    insertEntry e list = if e.urgency = .priority then
      list.filter (fun x => x.urgency == .priority) ++ e :: list.filter (fun x => x.urgency == .normal)
    else list ++ [e] := by
  unfold insertEntry
  cases e.urgency <;> rfl

end

/-- Settles O19: `claimWaits` in the state heard; the ticket's write is the one of `setTicket_of_live`. -/
theorem claimWaitsOnATicket : Obligations.ClaimWaitsOnATicket := by
  unfold Obligations.ClaimWaitsOnATicket
  intro h target patience term drive urgency a t v s hears args resolved live passes busy patient
  have decided := decideClaim_busy (s := s.heard h 11) (n := h.port) resolved passes busy
  rw [if_neg patient.ne'] at decided
  refine ⟨fun taken => ?_, fun k idle lowest => ?_⟩
  · exact exec_claim_heard hears args (decided.trans (State.claimWaits_noTicket live taken))
  · rw [State.claimWaits_ticket live idle lowest, insertEntry_eq] at decided
    exact exec_claim_heard hears args decided

section
variable {s : State} {t : Target} {l : LineId}

theorem State.claimRefusal_held (listed : l ∈ t.lines) (held : (s.line l).holder ≠ .none)
    (below : ∀ m ∈ t.lines, m < l → ¬ (s.line m).holder ≠ .none) :
    s.claimRefusal t = Reply.of .heldByOther (.line l) := by
  have first := State.firstFailing_of_lowest (test := fun ln => decide (ln.holder = .none)) listed (decide_eq_false held)
    fun m known before => decide_eq_true (not_not.mp (below m known before))
  rw [State.claimRefusal, first]

theorem State.claimRefusal_notFree (unheld : ∀ m ∈ t.lines, (s.line m).holder = .none) (listed : l ∈ t.lines)
    (busy : (s.line l).state ≠ .free) (below : ∀ m ∈ t.lines, m < l → ¬ (s.line m).state ≠ .free) :
    s.claimRefusal t = Reply.of .notFree (.line l) := by
  have none := State.firstFailing_eq_none_iff (test := fun ln => decide (ln.holder = .none)).mpr fun m known =>
    decide_eq_true (unheld m known)
  have first := State.firstFailing_of_lowest (test := fun ln => decide (ln.state = .free)) listed (decide_eq_false busy)
    fun m known before => decide_eq_true (not_not.mp (below m known before))
  rw [State.claimRefusal, none, first]

end

/-- Settles O20: the tests of `decideClaim` in their order, each with its lowest failing line. -/
theorem claimIsRefused : Obligations.ClaimIsRefused := by
  unfold Obligations.ClaimIsRefused
  intro h target patience term drive urgency a s hears args refused lowest
  have refuse {r : Reply} (decided : decideClaim h.port a (s.heard h 11) = .done (s.heard h 11) r) : refused r :=
    exec_claim_heard hears args decided
  refine ⟨fun undefined => refuse (decideClaim_notFound undefined), fun t l resolved fails => ?_,
    fun t l resolved unpinned fails => ?_, fun t resolved passes impatient busy => ?_⟩
  · obtain ⟨listed, pinned, below⟩ := fails
    refine refuse (decideClaim_refused resolved (State.firstRefusal_cons_of_lowest _ _ listed ?_ fun m known before => ?_))
    · exact congrArg (!·) pinned
    · exact congrArg (!·) (Bool.eq_false_iff.mpr (below m known before))
  · obtain ⟨listed, held, below⟩ := fails
    refine refuse (decideClaim_refused resolved ((State.firstRefusal_cons_of_pass _ _ fun m known => ?_).trans
      (State.firstRefusal_cons_of_lowest _ _ listed ?_ fun m known before => ?_)))
    · exact congrArg (!·) (unpinned m known)
    · exact congrArg (!·) (Line.heldBy_iff.mpr held)
    · exact congrArg (!·) (heldBy_eq_false (below m known before))
  · have decided := decideClaim_busy (s := s.heard h 11) (n := h.port) resolved passes busy
    rw [if_pos impatient] at decided
    refine ⟨fun l fails => ?_, fun l unheld fails => ?_⟩
    · obtain ⟨listed, held, below⟩ := fails
      rw [State.claimRefusal_held (s := s.heard h 11) listed held below] at decided
      exact refuse decided
    · obtain ⟨listed, notFree, below⟩ := fails
      rw [State.claimRefusal_notFree (s := s.heard h 11) unheld listed notFree below] at decided
      exact refuse decided

end Sys2Proof.Machine

/-! PROOFS: the record tests of the requests on lines (O23), SET (O24), RELEASE (O25), SET_HEIR and EXTEND (O26),
CLEAR_FAULT (O27), and the requests on the interlock table (O35). -/

namespace Sys2Proof.Machine

/-! ### A record test and what it asks of a line (R28) -/

/-- The record test asks `p` of a line. -/
def Asks (test : Line → Bool) (p : Line → Prop) : Prop := ∀ ln, test ln = true ↔ p ln

theorem asks_notHolderTest (n : Port) : Asks (notHolderTest n).2 (fun ln => ln.holder = .agent n) :=
  fun _ => Line.heldBy_iff

theorem asks_lineMovingTest : Asks lineMovingTest.2 (fun ln => ln.state ≠ .moving) := fun _ => decide_eq_true_iff

theorem asks_lineFaultedTest : Asks lineFaultedTest.2 (fun ln => ln.fault = .none) := fun _ => decide_eq_true_iff

theorem asks_inSequenceTest : Asks inSequenceTest.2 (fun ln => ln.binding = none) := fun _ => decide_eq_true_iff

/-- Line `l` is the lowest of the list that fails what a test asks. -/
def State.LowestFails (s : State) (ls : List LineId) (p : Line → Prop) (l : LineId) : Prop :=
  l ∈ ls ∧ ¬ p (s.line l) ∧ ∀ m ∈ ls, m < l → p (s.line m)

section
variable {s : State} {ls : List LineId} {test : ReqOutcome × (Line → Bool)} {p : Line → Prop} {l : LineId}

theorem State.firstRefusal_pass (asks : Asks test.2 p) (all : ∀ m ∈ ls, p (s.line m))
    (rest : List (ReqOutcome × (Line → Bool))) : s.firstRefusal ls (test :: rest) = s.firstRefusal ls rest :=
  State.firstRefusal_cons_of_pass test.1 rest fun m listed => (asks _).mpr (all m listed)

theorem State.firstRefusal_lowest (asks : Asks test.2 p) (lowest : s.LowestFails ls p l)
    (rest : List (ReqOutcome × (Line → Bool))) :
    s.firstRefusal ls (test :: rest) = some (Reply.of test.1 (.line l)) := by
  obtain ⟨listed, fails, below⟩ := lowest
  refine State.firstRefusal_cons_of_lowest test.1 rest listed ?_ fun m known before => (asks _).mpr (below m known before)
  rw [Bool.eq_false_iff, ne_eq, asks]
  exact fails

end

/-- The record tests read the lines, which are heard as they are. -/
theorem State.firstRefusal_heard (s : State) (h : Header) (k : Nat) (ls : List LineId)
    (tests : List (ReqOutcome × (Line → Bool))) : (s.heard h k).firstRefusal ls tests = s.firstRefusal ls tests := by
  induction tests with
  | nil => rfl
  | cons test rest ih => rw [State.firstRefusal_cons, State.firstRefusal_cons, ih]; rfl

/-! ### The requests in the state heard -/

theorem exec_setDrives (h : Header) (es : List RawSetEntry) (s : State) : exec (.setDrives h es) s = execSet h es s := rfl

theorem exec_release (h : Header) (target : RawTarget) (s : State) : exec (.release h target) s = execRelease h target s :=
  rfl

theorem exec_extend (h : Header) (target : RawTarget) (term : BitVec 32) (s : State) :
    exec (.extend h target term) s = execExtend h target term s := rfl

theorem exec_setHeir (h : Header) (line heir : Byte) (s : State) :
    exec (.setHeir h line heir) s = execSetHeir h line heir s := rfl

theorem exec_clearFault (h : Header) (line : Byte) (s : State) : exec (.clearFault h line) s = execClearFault h line s :=
  rfl

section
variable {h : Header} {s t : State} {r : Reply}

theorem exec_setDrives_heard {es : List RawSetEntry} {entries : List (LineId × Drive)}
    (hears : s.Hears h .readyOnly .none) (args : setArgs es = some entries)
    (decided : decideSet h.port entries (s.heard h (3 * es.length)) = .done t r) :
    exec (.setDrives h es) s = .next (t.answered s h r) := by
  rw [exec_setDrives, execSet, args, State.serve_heard hears decided]

theorem exec_release_heard {raw : RawTarget} {name : NamedTarget} (hears : s.Hears h .readyOnly .none)
    (args : targetArg raw = some name) (decided : decideRelease h.port name (s.heard h 2) = .done t r) :
    exec (.release h raw) s = .next (t.answered s h r) := by
  rw [exec_release, execRelease, args, State.serve_heard hears decided]

theorem exec_extend_heard {raw : RawTarget} {term : BitVec 32} {a : NamedTarget × Option Nat}
    (hears : s.Hears h .readyOnly .none) (args : extendArgs raw term = some a)
    (decided : decideExtend h.port a (s.heard h 6) = .done t r) :
    exec (.extend h raw term) s = .next (t.answered s h r) := by
  rw [exec_extend, execExtend, args, State.serve_heard hears decided]

theorem exec_setHeir_heard {line heir : Byte} {a : LineId × Option Port} (hears : s.Hears h .readyOnly .none)
    (args : setHeirArgs h.port line heir = some a) (decided : decideSetHeir h.port a (s.heard h 2) = .done t r) :
    exec (.setHeir h line heir) s = .next (t.answered s h r) := by
  rw [exec_setHeir, execSetHeir, args, State.serve_heard hears decided]

theorem exec_clearFault_heard {line : Byte} {l : LineId} (hears : s.Hears h .readyOnly .none)
    (inRange : line.toNat = l.val) (decided : decideClearFault h.port l (s.heard h 1) = .done t r) :
    exec (.clearFault h line) s = .next (t.answered s h r) := by
  rw [exec_clearFault, execClearFault, lineArg, numberBelow_of_eq inRange, State.serve_heard hears decided]

end

/-! ### The decisions of SET, RELEASE and EXTEND (R28 to R34) -/

section
variable {s : State} {n : Port} {t : Target} {r : Reply}

theorem decideSet_refused {entries : List (LineId × Drive)} (refused : s.firstRefusal (entries.map (·.1))
    [notHolderTest n, lineMovingTest, lineFaultedTest, inSequenceTest] = some r) : decideSet n entries s = .done s r := by
  rw [decideSet, refused]

theorem decideRelease_notFound {name : NamedTarget} (undefined : s.resolve name = none) :
    decideRelease n name s = .done s (Reply.bare .notFound) := by
  rw [decideRelease, undefined]

theorem decideRelease_refused {name : NamedTarget} (resolved : s.resolve name = some t)
    (refused : s.firstRefusal t.lines [notHolderTest n, lineMovingTest, inSequenceTest] = some r) :
    decideRelease n name s = .done s r := by
  simp only [decideRelease, resolved, refused]

theorem decideExtend_notFound {a : NamedTarget × Option Nat} (undefined : s.resolve a.1 = none) :
    decideExtend n a s = .done s (Reply.bare .notFound) := by
  rw [decideExtend, undefined]

theorem decideExtend_refused {a : NamedTarget × Option Nat} (resolved : s.resolve a.1 = some t)
    (refused : s.firstRefusal t.lines [notHolderTest n, inSequenceTest] = some r) : decideExtend n a s = .done s r := by
  simp only [decideExtend, resolved, refused]

end

/-- Settles O23: each refusal is that of the first test of its list which some line fails. -/
theorem recordTestsRefuseInOrder : Obligations.RecordTestsRefuseInOrder := by
  unfold Obligations.RecordTestsRefuseInOrder
  intro h s l hears held lowest all refuses
  refine ⟨fun es entries args => ?_, fun raw name args => ⟨fun undefined => ?_, fun t resolved => ?_⟩,
    fun raw term name m args => ⟨fun undefined => ?_, fun t resolved => ?_⟩⟩
  · intro ls no
    have refuse {o : ReqOutcome} (refused : s.firstRefusal ls
        [notHolderTest h.port, lineMovingTest, lineFaultedTest, inSequenceTest] = some (Reply.of o (.line l))) : no o :=
      exec_setDrives_heard hears args (decideSet_refused ((s.firstRefusal_heard h _ _ _).trans refused))
    refine ⟨fun fails => refuse ?_, fun mine fails => refuse ?_, fun mine still fails => refuse ?_,
      fun mine still sound fails => refuse ?_⟩
    · exact State.firstRefusal_lowest (asks_notHolderTest _) fails _
    · rw [State.firstRefusal_pass (asks_notHolderTest _) mine]
      exact State.firstRefusal_lowest asks_lineMovingTest fails _
    · rw [State.firstRefusal_pass (asks_notHolderTest _) mine, State.firstRefusal_pass asks_lineMovingTest still]
      exact State.firstRefusal_lowest asks_lineFaultedTest fails _
    · rw [State.firstRefusal_pass (asks_notHolderTest _) mine, State.firstRefusal_pass asks_lineMovingTest still,
        State.firstRefusal_pass asks_lineFaultedTest sound]
      exact State.firstRefusal_lowest asks_inSequenceTest fails _
  · exact exec_release_heard hears args (decideRelease_notFound undefined)
  · intro no
    have refuse {o : ReqOutcome} (refused : s.firstRefusal t.lines
        [notHolderTest h.port, lineMovingTest, inSequenceTest] = some (Reply.of o (.line l))) : no o :=
      exec_release_heard hears args (decideRelease_refused resolved ((s.firstRefusal_heard h _ _ _).trans refused))
    refine ⟨fun fails => refuse ?_, fun mine fails => refuse ?_, fun mine still fails => refuse ?_⟩
    · exact State.firstRefusal_lowest (asks_notHolderTest _) fails _
    · rw [State.firstRefusal_pass (asks_notHolderTest _) mine]
      exact State.firstRefusal_lowest asks_lineMovingTest fails _
    · rw [State.firstRefusal_pass (asks_notHolderTest _) mine, State.firstRefusal_pass asks_lineMovingTest still]
      exact State.firstRefusal_lowest asks_inSequenceTest fails _
  · exact exec_extend_heard hears args (decideExtend_notFound undefined)
  · intro no
    have refuse {o : ReqOutcome} (refused : s.firstRefusal t.lines
        [notHolderTest h.port, inSequenceTest] = some (Reply.of o (.line l))) : no o :=
      exec_extend_heard hears args (decideExtend_refused resolved ((s.firstRefusal_heard h _ _ _).trans refused))
    refine ⟨fun fails => refuse ?_, fun mine fails => refuse ?_⟩
    · exact State.firstRefusal_lowest (asks_notHolderTest _) fails _
    · rw [State.firstRefusal_pass (asks_notHolderTest _) mine]
      exact State.firstRefusal_lowest asks_inSequenceTest fails _

/-! ### SET (R29, R30) -/

theorem numberBelow_eq_some_iff {n : Nat} {b : Byte} {i : Fin n} : numberBelow n b = some i ↔ b.toNat = i.val := by
  refine ⟨fun taken => ?_, numberBelow_of_eq⟩
  unfold numberBelow at taken
  split_ifs at taken
  rw [← Option.some.inj taken]

theorem mem_of_allArgs {α β : Type} {f : α → Option β} : ∀ {as : List α} {bs : List β}, allArgs f as = some bs →
    ∀ b, b ∈ bs ↔ ∃ a ∈ as, f a = some b
  | [], bs, read, b => by
    obtain rfl := Option.some.inj read
    simp
  | a :: as, bs, read, b => by
    rw [allArgs] at read
    obtain ⟨first, taken, rest⟩ := Option.bind_eq_some_iff.mp read
    obtain ⟨later, known, rfl⟩ := Option.map_eq_some_iff.mp rest
    rw [List.mem_cons, mem_of_allArgs known b, List.exists_mem_cons_iff, taken, Option.some.injEq, eq_comm]

/-- R29, R179: the list of a SET, read and put in line order. -/
theorem setArgs_eq_some_iff {es : List RawSetEntry} {entries : List (LineId × Drive)} (args : setArgs es = some entries) :
    (entries.map (·.1)).Pairwise (· < ·) ∧
      ∀ l d, (l, d) ∈ entries ↔ ∃ e ∈ es, e.line.toNat = l.val ∧ driveArg e.drive = some d := by
  rw [setArgs, Option.ite_none_left_eq_some] at args
  obtain ⟨-, args⟩ := args
  obtain ⟨read, known, sorted⟩ := Option.bind_eq_some_iff.mp args
  obtain ⟨distinct, sorted⟩ := Option.ite_none_right_eq_some.mp sorted
  obtain rfl := Option.some.inj sorted
  have named {l : LineId} {e : LineId × Drive} (found : read.find? (fun e => e.1 = l) = some e) : e.1 = l := by
    simpa using List.find?_some found
  refine ⟨?_, fun l d => ?_⟩
  · rw [List.pairwise_map, List.pairwise_filterMap]
    refine pairwise_allLines.imp fun {l m} before e first f second => ?_
    rwa [named first, named second]
  · have listed : (l, d) ∈ read ↔ ∃ e ∈ es, e.line.toNat = l.val ∧ driveArg e.drive = some d := by
      rw [mem_of_allArgs known]
      simp [Option.bind_eq_some_iff, lineArg, numberBelow_eq_some_iff]
    rw [← listed, List.mem_filterMap]
    refine ⟨fun ⟨m, _, found⟩ => List.mem_of_find?_eq_some found, fun mem => ⟨l, mem_allLines l, ?_⟩⟩
    obtain ⟨e, found⟩ : ∃ e, read.find? (fun e => e.1 = l) = some e :=
      Option.isSome_iff_exists.mp (List.find?_isSome.mpr ⟨(l, d), mem, decide_eq_true rfl⟩)
    rw [found, List.inj_on_of_nodup_map distinct (List.mem_of_find?_eq_some found) mem (named found)]

section
variable {s : State} {n : Port} {entries : List (LineId × Drive)}

/-- R29: a SET that no record test refuses. -/
theorem decideSet_passes (passes : ∀ e ∈ entries, (s.line e.1).holder = .agent n ∧ (s.line e.1).state ≠ .moving ∧
    (s.line e.1).fault = .none ∧ (s.line e.1).binding = none) :
    (∀ t, s.driveAll entries = .ok t → decideSet n entries s = .done t (Reply.bare .ok)) ∧
      ∀ slot l, s.driveAll entries = .error (slot, l) →
        decideSet n entries s = .done s (Reply.of .interlock (.interlock slot l)) := by
  have tests : s.firstRefusal (entries.map (·.1)) [notHolderTest n, lineMovingTest, lineFaultedTest, inSequenceTest] =
      none := by
    rw [State.firstRefusal_pass (asks_notHolderTest n), State.firstRefusal_pass asks_lineMovingTest,
      State.firstRefusal_pass asks_lineFaultedTest, State.firstRefusal_pass asks_inSequenceTest, State.firstRefusal]
    all_goals
      intro l listed
      obtain ⟨e, mem, rfl⟩ := List.mem_map.mp listed
      obtain ⟨mine, still, sound, unbound⟩ := passes e mem
      assumption
  exact ⟨fun t driven => by simp only [decideSet, tests, driven],
    fun slot l refused => by simp only [decideSet, tests, refused]⟩

end

/-- Settles O24: the decision is `driveAll` in the state heard, over the list that `setArgs` reads. -/
theorem setDrivesEveryLineOrNone : Obligations.SetDrivesEveryLineOrNone := by
  unfold Obligations.SetDrivesEveryLineOrNone
  refine ⟨driveAllAdmitsInOrder, fun es entries args => setArgs_eq_some_iff args,
    fun h es entries s hears args passes => ⟨fun slot l refused => ?_, fun u driven => ?_⟩⟩
  all_goals obtain ⟨driving, refusing⟩ := decideSet_passes (s := s.heard h (3 * es.length)) passes
  · exact exec_setDrives_heard hears args (refusing slot l refused)
  · have distinct := (setArgs_eq_some_iff args).1.imp fun {l m} before => ne_of_lt before
    exact ⟨(State.driveAll_same _ _ u driven).onlyLines,
      fun e listed => State.line_driveAll (s := s.heard h (3 * es.length)) entries driven distinct listed,
      fun l other => State.line_driveAll_other entries (s.heard h (3 * es.length)) u l driven other,
      exec_setDrives_heard hears args (driving u driven)⟩

/-! ### RELEASE (R31, R32) -/

theorem State.forLines_append (op : LineId → State → State) (before after : List LineId) (s : State) :
    State.forLines op (before ++ after) s = State.forLines op after (State.forLines op before s) := by
  induction before generalizing s with
  | nil => rfl
  | cons l before ih => exact ih (op l s)

/-- The turn of line `l` in a list in line order: the lines before it have had theirs, the others are as they were. -/
theorem State.forLines_turn {op : LineId → State → State}
    (others : ∀ l m (s : State), m ≠ l → (op l s).line m = s.line m) {ls : List LineId} (sorted : ls.Pairwise (· < ·))
    {l : LineId} (listed : l ∈ ls) (s : State) :
    ∃ before, (∀ m, m ∈ before ↔ m ∈ ls ∧ m < l) ∧ before.Nodup ∧
      (∀ m ∈ before, (State.forLines op before s).line m = (State.forLines op ls s).line m) ∧
      (State.forLines op ls s).line l = (op l (State.forLines op before s)).line l := by
  obtain ⟨before, after, rfl⟩ := List.append_of_mem listed
  obtain ⟨sortedBefore, sortedAfter, across⟩ := List.pairwise_append.mp sorted
  obtain ⟨above, -⟩ := List.pairwise_cons.mp sortedAfter
  have later {m : LineId} (notLater : m ≤ l) : m ∉ after := fun mem => absurd (above m mem) (not_lt.mpr notLater)
  refine ⟨before, fun m => ⟨fun mem => ⟨List.mem_append_left _ mem, across m mem l List.mem_cons_self⟩, fun ⟨mem, lt⟩ => ?_⟩,
    sortedBefore.imp ne_of_lt, fun m mem => ?_, ?_⟩
  · obtain early | late := List.mem_append.mp mem
    · exact early
    · obtain rfl | after := List.mem_cons.mp late
      · exact absurd lt (lt_irrefl _)
      · exact absurd after (later lt.le)
  · have lt := across m mem l List.mem_cons_self
    rw [State.forLines_append, State.forLines, State.line_forLines_other others after _ m (later lt.le),
      others l m _ (ne_of_lt lt)]
  · rw [State.forLines_append, State.forLines, State.line_forLines_other others after _ l (later le_rfl)]

theorem State.releaseLine_other (l m : LineId) (s : State) (other : m ≠ l) : (State.releaseLine l s).line m = s.line m :=
  State.line_beginRelease_other s _ _ other

theorem State.releaseLine_same (l : LineId) (s : State) : s.SameButLines (State.releaseLine l s) :=
  State.beginRelease_same s l _ _

theorem State.line_releaseLine (l : LineId) (s : State) :
    (State.releaseLine l s).line l = (s.line l).released .released (s.releaseTarget l) s.lineTime :=
  State.line_beginRelease s l _ _

theorem State.releaseTarget_present {s : State} {l : LineId} (present : (s.line l).static.disposition = .present) :
    s.releaseTarget l = (s.line l).drive := by
  rw [State.releaseTarget, present]

theorem State.releaseTarget_fallback {s : State} {l : LineId} (fallback : (s.line l).static.disposition = .fallback) :
    s.releaseTarget l =
      if (s.admission l (s.line l).static.fallback).isNone then (s.line l).static.fallback else .float := by
  rw [State.releaseTarget, fallback, State.fallbackOrFloat]

/-- R56: a release to the fallback goes to it, or to FLOAT. -/
theorem State.releaseTarget_fallback_or_float {s : State} {l : LineId}
    (fallback : (s.line l).static.disposition = .fallback) :
    s.releaseTarget l = (s.line l).static.fallback ∨ s.releaseTarget l = .float := by
  rw [State.releaseTarget_fallback fallback]
  split_ifs
  · exact .inl rfl
  · exact .inr rfl

/-- R52: admission looks at the lines and at the table. -/
theorem State.admission_of_lines {s t : State} (lines : ∀ m, s.line m = t.line m) (interlocks : s.interlocks = t.interlocks)
    (x : LineId) (d : Drive) : s.admission x d = t.admission x d :=
  State.admission_congr (funext fun m => congrArg Line.levels (lines m)) (congrArg Line.drive (lines x)) interlocks

theorem decideRelease_passes {s : State} {n : Port} {name : NamedTarget} {t : Target} (resolved : s.resolve name = some t)
    (passes : ∀ l ∈ t.lines, (s.line l).holder = .agent n ∧ (s.line l).state ≠ .moving ∧ (s.line l).binding = none) :
    decideRelease n name s = .done (State.forLines State.releaseLine (ascending t.lines) s) (Reply.bare .ok) := by
  have tests : s.firstRefusal t.lines [notHolderTest n, lineMovingTest, inSequenceTest] = none := by
    rw [State.firstRefusal_pass (asks_notHolderTest n), State.firstRefusal_pass asks_lineMovingTest,
      State.firstRefusal_pass asks_inSequenceTest, State.firstRefusal]
    all_goals
      intro l listed
      obtain ⟨mine, still, unbound⟩ := passes l listed
      assumption
  simp only [decideRelease, resolved, tests]

section
variable (s : State) (ls : List LineId)

/-- R32: the release of a list of lines in line order. -/
def State.released (s : State) (ls : List LineId) : State := State.forLines State.releaseLine (ascending ls) s

theorem State.released_same : s.SameButLines (s.released ls) := State.forLines_same State.releaseLine_same _ s

theorem State.line_released_other {l : LineId} (other : l ∉ ls) : (s.released ls).line l = s.line l :=
  State.line_forLines_other State.releaseLine_other _ s l fun listed => other (mem_ascending.mp listed)

theorem State.interlocks_released (noMove : ∀ l ∈ ls, (s.line l).move = none) :
    (s.released ls).interlocks = s.interlocks :=
  State.interlocks_forLines (fun l u none => State.interlocks_beginRelease u l _ _ none) State.releaseLine_other
    (nodup_ascending ls) fun l listed => noMove l (mem_ascending.mp listed)

/-- R53, R56: a line's release is decided in a state where the lower-numbered lines are released, and the others as they
were. -/
theorem State.line_released {l : LineId} (listed : l ∈ ls) : ∃ v : State, v.lineTime = s.lineTime ∧
    (∀ m, v.line m = if m ∈ ls ∧ m < l then (s.released ls).line m else s.line m) ∧
    ((∀ m ∈ ls, m < l → (s.line m).move = none) → v.interlocks = s.interlocks) ∧
    (s.released ls).line l = (s.line l).released .released (v.releaseTarget l) s.lineTime := by
  obtain ⟨before, mem, distinct, done, turn⟩ :=
    State.forLines_turn State.releaseLine_other (pairwise_ascending ls) (mem_ascending.mpr listed) s
  have time := (State.forLines_same State.releaseLine_same before s).lineTime
  have line (m : LineId) : (State.forLines State.releaseLine before s).line m =
      if m ∈ ls ∧ m < l then (s.released ls).line m else s.line m := by
    split_ifs with early
    · exact done m ((mem m).mpr ⟨mem_ascending.mpr early.1, early.2⟩)
    · refine State.line_forLines_other State.releaseLine_other before s m fun known => early ?_
      exact ((mem m).mp known).imp_left mem_ascending.mp
  refine ⟨_, time, line, fun noMove => ?_, ?_⟩
  · exact State.interlocks_forLines (fun l u none => State.interlocks_beginRelease u l _ _ none) State.releaseLine_other
      distinct fun m known => noMove m (mem_ascending.mp ((mem m).mp known).1) ((mem m).mp known).2
  · rw [State.released, turn, State.line_releaseLine, time, line l, if_neg fun early => lt_irrefl l early.2]

end

/-- Settles O25: each line's release is that of its turn (`State.line_released`). -/
theorem releaseStartsReleaseMoves : Obligations.ReleaseStartsReleaseMoves := by
  unfold Obligations.ReleaseStartsReleaseMoves
  intro h raw name t s hears args resolved passes
  have decided := decideRelease_passes (s := s.heard h 2) resolved passes
  generalize heard : s.heard h 2 = x at decided
  have line (l : LineId) : x.line l = s.line l := by rw [← heard, State.heard_line]
  have time : x.lineTime = s.lineTime := by rw [← heard, State.heard_lineTime]
  have table : x.interlocks = s.interlocks := by rw [← heard]; rfl
  have turn {l : LineId} (listed : l ∈ t.lines) := x.line_released t.lines listed
  simp only [line, time, table] at turn
  have static {v : State} {l : LineId} (read : ∀ m, v.line m = if m ∈ t.lines ∧ m < l then (x.released t.lines).line m
      else s.line m) : v.line l = s.line l := by rw [read, if_neg fun early => lt_irrefl l early.2]
  refine ⟨x.released t.lines, (x.released_same t.lines).onlyLines, fun l other => ?_, fun l listed present => ?_,
    fun l listed fallback => ?_, fun l only fallback => ?_, fun noMove => ⟨?_, fun l listed fallback => ?_⟩, ?_⟩
  · rw [State.line_released_other x t.lines other, line]
  · obtain ⟨v, -, read, -, released⟩ := turn listed
    rw [released, State.releaseTarget_present (by rw [static read]; exact present), static read]
  · obtain ⟨v, -, read, -, released⟩ := turn listed
    obtain own | float := State.releaseTarget_fallback_or_float (s := v) (l := l) (by rw [static read]; exact fallback)
    · exact .inl (by rw [released, own, static read])
    · exact .inr (by rw [released, float])
  · have listed : l ∈ t.lines := by
      rw [only]
      exact List.mem_singleton_self l
    obtain ⟨v, -, read, interlocks, released⟩ := turn listed
    have first {m : LineId} (early : m ∈ t.lines ∧ m < l) : False := by
      rw [only, List.mem_singleton] at early
      exact lt_irrefl l (early.1 ▸ early.2)
    have same (m : LineId) : v.line m = s.line m := by rw [read, if_neg first]
    rw [released, State.releaseTarget_fallback (by rw [static read]; exact fallback),
      State.admission_of_lines same (interlocks fun m known before => (first ⟨known, before⟩).elim), static read]
  · rw [State.interlocks_released x t.lines fun l listed => by rw [line]; exact noMove l listed, table]
  · obtain ⟨v, -, read, interlocks, released⟩ := turn listed
    intro counted
    have same (m : LineId) : v.line m = counted.line m := 
      (read m).trans (Table.get_ofFn (fun m => if m ∈ t.lines ∧ m < l then (x.released t.lines).line m else s.line m) m).symm
    have tables : v.interlocks = counted.interlocks := interlocks fun m known _ => noMove m known
    rw [released, State.releaseTarget_fallback (by rw [static read]; exact fallback),
      State.admission_of_lines same tables, static read]
  · rw [← heard] at decided ⊢
    exact exec_release_heard hears args decided

/-! ### SET_HEIR, EXTEND and CLEAR_FAULT (R18, R19, R33, R34) -/

theorem heirArg_eq_some {heir : Byte} {a : Option Port}
    (coded : (heir = 0xFF ∧ a = none) ∨ ∃ n : Port, heir.toNat = n.val ∧ a = some n) : heirArg heir = some a := by
  obtain ⟨rfl, rfl⟩ | ⟨n, number, rfl⟩ := coded
  · rfl
  · have notNone : heir ≠ 0xFF := by
      rintro rfl
      exact absurd number (ne_of_gt (n.isLt.trans (by decide)))
    rw [heirArg, if_neg notNone, numberBelow_of_eq number, Option.map_some]

theorem setHeirArgs_eq {n : Port} {line heir : Byte} {l : LineId} {a : Option Port} (inRange : line.toNat = l.val)
    (coded : heirArg heir = some a) : setHeirArgs n line heir = if a = some n then none else some (l, a) := by
  rw [setHeirArgs, lineArg, numberBelow_of_eq inRange, coded]
  rfl

theorem decideSetHeir_mine {s : State} {n : Port} {l : LineId} {a : Option Port} (mine : (s.line l).holder = .agent n) :
    decideSetHeir n (l, a) s = .done (s.setLine l { s.line l with heir := a }) (Reply.bare .ok) :=
  if_pos (Line.heldBy_iff.mpr mine)

theorem decideSetHeir_foreign {s : State} {n : Port} {l : LineId} {a : Option Port}
    (foreign : (s.line l).holder ≠ .agent n) : decideSetHeir n (l, a) s = .done s (Reply.of .notHolder (.line l)) :=
  if_neg fun mine => foreign (Line.heldBy_iff.mp mine)

/-- R34: the term of a line, measured from `now`, or removed. -/
def Line.extended (ln : Line) (term : Option Nat) (now : LineTime) : Line :=
  { ln with term := term.map fun k => now + BitVec.ofNat 32 (k * 1000), termDue := false }

theorem State.extendLine_lines (s : State) (term : Option Nat) (ls : List LineId) :
    (State.forLines (State.extendLine term) (ascending ls) s).lines =
      Vector.ofFn fun l => if l ∈ ls then (s.line l).extended term s.lineTime else s.line l := by
  refine Table.ext fun l => ?_
  rw [Table.get_ofFn]
  have others (l m : LineId) (u : State) (other : m ≠ l) : (State.extendLine term l u).line m = u.line m := by
    rw [State.extendLine, State.line_modifyLine, if_neg other]
  rw [← State.line, State.line_forLines (op := State.extendLine term) (f := fun _ ln now => ln.extended term now)
    (fun l u => u.line_modifyLine_self l _) others (fun _ _ => rfl) (nodup_ascending ls)]
  simp only [mem_ascending]

theorem State.extendLine_interlocks (s : State) (term : Option Nat) (ls : List LineId) :
    (State.forLines (State.extendLine term) ls s).interlocks = s.interlocks := by
  induction ls generalizing s with
  | nil => rfl
  | cons l rest ih => exact ih _

/-- R34: EXTEND of a list of lines writes their terms and nothing else. -/
theorem State.forLines_extendLine (s : State) (term : Option Nat) (ls : List LineId) :
    State.forLines (State.extendLine term) (ascending ls) s = { s with
      lines := Vector.ofFn fun l => if l ∈ ls then (s.line l).extended term s.lineTime else s.line l } := by
  have same : s.SameButLines (State.forLines (State.extendLine term) (ascending ls) s) :=
    State.forLines_same (fun l u => u.modifyLine_same l _) _ s
  unfold State.SameButLines at same
  rw [same, State.extendLine_lines, State.extendLine_interlocks]

theorem decideExtend_passes {s : State} {n : Port} {a : NamedTarget × Option Nat} {t : Target}
    (resolved : s.resolve a.1 = some t)
    (passes : ∀ l ∈ t.lines, (s.line l).holder = .agent n ∧ (s.line l).binding = none) :
    decideExtend n a s = .done (State.forLines (State.extendLine a.2) (ascending t.lines) s) (Reply.bare .ok) := by
  have tests : s.firstRefusal t.lines [notHolderTest n, inSequenceTest] = none := by
    rw [State.firstRefusal_pass (asks_notHolderTest n) fun l listed => (passes l listed).1,
      State.firstRefusal_pass asks_inSequenceTest fun l listed => (passes l listed).2, State.firstRefusal]
  simp only [decideExtend, resolved, tests]

/-- Settles O26: SET_HEIR is one write of a line record, EXTEND one of each line of its target. -/
theorem setHeirAndExtendWriteTheirFields : Obligations.SetHeirAndExtendWriteTheirFields := by
  unfold Obligations.SetHeirAndExtendWriteTheirFields
  refine ⟨fun h line heir l a s hears inRange coded => ?_, fun h raw term name ms t s hears args resolved passes => ?_⟩
  · have args := setHeirArgs_eq (n := h.port) inRange (heirArg_eq_some coded)
    refine ⟨fun own => ?_, fun other mine => ?_, fun other foreign => ?_⟩
    · rw [if_pos own] at args
      rw [exec_setHeir, execSetHeir, args, State.serve_badArgument _ hears]
    · rw [if_neg other] at args
      have decided := decideSetHeir_mine (s := s.heard h 2) (a := a) mine
      rw [State.heard_line] at decided
      exact exec_setHeir_heard hears args decided
    · rw [if_neg other] at args
      exact exec_setHeir_heard hears args (decideSetHeir_foreign (s := s.heard h 2) foreign)
  · have decided := decideExtend_passes (s := s.heard h 6) (n := h.port) (a := (name, ms)) resolved passes
    rw [State.forLines_extendLine] at decided
    exact exec_extend_heard hears args decided

section
variable {s : State} {n : Port} {l : LineId} {prior : Drive}

theorem decideClearFault_notHolder (foreign : (s.line l).holder ≠ .agent n) :
    decideClearFault n l s = .done s (Reply.of .notHolder (.line l)) :=
  if_neg fun mine => foreign (Line.heldBy_iff.mp mine)

theorem decideClearFault_held (mine : (s.line l).holder = .agent n) (none : (s.line l).fault = .none) :
    decideClearFault n l s = .done s (Reply.bare .notFound) := by
  rw [decideClearFault, if_pos (Line.heldBy_iff.mpr mine), none]

section
variable (mine : (s.line l).holder = .agent n) (faulted : (s.line l).fault = .readback)
  (known : (s.line l).priorDrive = some prior)
include mine faulted known

/-! R18: CLEAR_FAULT of a faulted line that the requester holds: its binding, then admission of its prior drive. -/

theorem decideClearFault_bound {k : SlotId} (bound : (s.line l).binding = some k) :
    decideClearFault n l s = .done s (Reply.of .inSequence (.line l)) := by
  simp only [decideClearFault, Line.heldBy_iff.mpr mine, if_true, faulted, known, bound]

theorem decideClearFault_refused {slot : RuleSlot} (unbound : (s.line l).binding = none)
    (refuses : s.admission l prior = some slot) :
    decideClearFault n l s = .done s (Reply.of .interlock (.interlock slot l)) := by
  simp only [decideClearFault, Line.heldBy_iff.mpr mine, if_true, faulted, known, unbound, refuses]

theorem decideClearFault_admitted (unbound : (s.line l).binding = none) (admitted : s.admission l prior = none) :
    decideClearFault n l s = .done (s.restore l prior) (Reply.bare .ok) := by
  simp only [decideClearFault, Line.heldBy_iff.mpr mine, if_true, faulted, known, unbound, admitted]

end

theorem State.line_restore : (s.restore l prior).line l =
    ({ s.line l with fault := .none, priorDrive := none } : Line).driven prior s.lineTime := by
  rw [State.restore, State.line_driveTo, State.line_modifyLine_self, State.modifyLine_lineTime]

theorem State.line_restore_other {m : LineId} (other : m ≠ l) : (s.restore l prior).line m = s.line m := by
  rw [State.restore, State.line_driveTo_other _ _ other, State.line_modifyLine, if_neg other]

theorem State.restore_same : s.SameButLines (s.restore l prior) :=
  (s.modifyLine_same l _).trans (State.driveTo_same _ l prior)

end

/-- Settles O27: the tests of CLEAR_FAULT in order, then `restore`. -/
theorem clearFaultRestoresThePriorDrive : Obligations.ClearFaultRestoresThePriorDrive := by
  unfold Obligations.ClearFaultRestoresThePriorDrive
  intro h line l s hears inRange refused
  have decide {t : State} {r : Reply} (decided : decideClearFault h.port l (s.heard h 1) = .done t r) :
      exec (.clearFault h line) s = .next (t.answered s h r) := exec_clearFault_heard hears inRange decided
  refine ⟨fun foreign => decide (decideClearFault_notHolder foreign),
    fun mine sound => decide (decideClearFault_held mine sound), fun prior mine faulted known => ?_⟩
  have admission : (s.heard h 1).admission l prior = s.admission l prior :=
    State.admission_of_lines (fun m => s.heard_line h 1 m) rfl l prior
  refine ⟨fun k bound => decide (decideClearFault_bound (s := s.heard h 1) mine faulted known bound),
    fun slot unbound refuses => decide ?_, fun unbound admitted => ?_⟩
  · exact decideClearFault_refused (s := s.heard h 1) mine faulted known unbound (admission.trans refuses)
  · refine ⟨(s.heard h 1).restore l prior, State.restore_same.onlyLines, fun m other => ?_, ?_, decide ?_⟩
    · rw [State.line_restore_other other, State.heard_line]
    · rw [State.line_restore, State.heard_line, State.heard_lineTime]
    · exact decideClearFault_admitted (s := s.heard h 1) mine faulted known unbound (admission.trans admitted)

/-! ### The requests on the interlock table (R59, R60, R61) -/

theorem exec_addInterlock (h : Header) (x a y b : Byte) (s : State) :
    exec (.addInterlock h x a y b) s = execAddInterlock h x a y b s := rfl

theorem exec_dropInterlock (h : Header) (slot : Byte) (s : State) :
    exec (.dropInterlock h slot) s = execDropInterlock h slot s := rfl

theorem exec_listInterlocks (h : Header) (s : State) : exec (.listInterlocks h) s = execListInterlocks h s := rfl

section
variable {s : State} {n : Port} {r : Rule} {k : RuleSlot}

theorem InterlockSlot.isEmpty_iff {slot : InterlockSlot} : slot.isEmpty = true ↔ slot = .empty := by
  cases slot <;> simp [InterlockSlot.isEmpty]

theorem decideAddInterlock_full (full : ∀ k, s.ruleAt k ≠ .empty) :
    decideAddInterlock n r s = .done s (Reply.bare .tableFull) := by
  have none : Table.lowest s.interlocks InterlockSlot.isEmpty = none :=
    Table.lowest_eq_none_iff.mpr fun k empty => full k (InterlockSlot.isEmpty_iff.mp empty)
  rw [decideAddInterlock, none]

theorem decideAddInterlock_slot (empty : s.ruleAt k = .empty) (lowest : ∀ j, j < k → s.ruleAt j ≠ .empty) :
    decideAddInterlock n r s =
      if r.matchedBy s.assertion then .done s (Reply.bare .violatedNow)
      else .done (s.setRule k (.rule r .occupied (.runtime n))) (Reply.of .ok (.ruleSlot k)) := by
  have slot : Table.lowest s.interlocks InterlockSlot.isEmpty = some k :=
    Table.lowest_eq_some_iff.mpr ⟨InterlockSlot.isEmpty_iff.mpr empty,
      fun j before emptyToo => lowest j before (InterlockSlot.isEmpty_iff.mp emptyToo)⟩
  rw [decideAddInterlock, slot]

/-- R61: what LIST_INTERLOCKS returns of a slot. -/
def InterlockSlot.listing (k : RuleSlot) : InterlockSlot → Option InterlockEntry
  | .empty => none
  | .rule r status origin => some { slot := k, rule := r, status := status, origin := origin }

theorem InterlockSlot.listing_eq_some_iff {slot : InterlockSlot} {e : InterlockEntry} :
    slot.listing k = some e ↔ e.slot = k ∧ slot = .rule e.rule e.status e.origin := by
  cases slot with
  | empty => simp [InterlockSlot.listing]
  | rule r status origin =>
    obtain ⟨slot, rule, st, o⟩ := e
    simp [InterlockSlot.listing, eq_comm]

theorem State.interlockEntries_eq (s : State) :
    s.interlockEntries = (List.finRange 32).filterMap fun k => (s.ruleAt k).listing k := rfl

theorem State.mem_interlockEntries {e : InterlockEntry} :
    e ∈ s.interlockEntries ↔ s.ruleAt e.slot = .rule e.rule e.status e.origin := by
  rw [State.interlockEntries_eq, List.mem_filterMap]
  constructor
  · rintro ⟨k, -, listed⟩
    obtain ⟨rfl, rule⟩ := InterlockSlot.listing_eq_some_iff.mp listed
    exact rule
  · exact fun rule => ⟨e.slot, List.mem_finRange _, InterlockSlot.listing_eq_some_iff.mpr ⟨rfl, rule⟩⟩

theorem State.pairwise_interlockEntries (s : State) : (s.interlockEntries.map (·.slot)).Pairwise (· < ·) := by
  rw [State.interlockEntries_eq, List.pairwise_map, List.pairwise_filterMap]
  refine (List.pairwise_lt_finRange 32).imp fun {j k} before e first f second => ?_
  rwa [(InterlockSlot.listing_eq_some_iff.mp first).1, (InterlockSlot.listing_eq_some_iff.mp second).1]

/-- R61: the fixed rules are those listed with origin FIXED. -/
theorem State.fixedCount_eq (s : State) :
    s.fixedCount = (s.interlockEntries.filter fun e => decide (e.origin = .fixed)).length := by
  rw [State.fixedCount, State.interlockEntries_eq]
  induction List.finRange 32 with
  | nil => rfl
  | cons k rest ih =>
    rw [List.filter_cons, List.filterMap_cons]
    cases s.ruleAt k with
    | empty => exact ih
    | rule r status origin =>
      cases origin with
      | fixed => exact congrArg (· + 1) ih
      | runtime n => exact ih

end

/-- Settles O35: the cases of each decision, in the state heard. -/
theorem requestsOnTheInterlockTable : Obligations.RequestsOnTheInterlockTable := by
  unfold Obligations.RequestsOnTheInterlockTable
  refine ⟨fun h x a y b r s hears args => ?_, fun h s => ⟨fun slot k hears inRange => ?_, fun hears => ?_⟩⟩
  · intro u
    have decide {t : State} {reply : Reply} (decided : decideAddInterlock h.port r u = .done t reply) :
        exec (.addInterlock h x a y b) s = .next (t.answered s h reply) := by
      rw [exec_addInterlock, execAddInterlock, args, State.serve_heard hears decided]
    refine ⟨fun full => decide (decideAddInterlock_full full), fun k empty lowest => ?_⟩
    have decided := decideAddInterlock_slot (s := u) (n := h.port) (r := r) empty lowest
    have sets : u.assertion = s.assertion := funext fun m => congrArg Line.levels (s.heard_line h 4 m)
    rw [sets] at decided
    refine ⟨fun isMatched => decide (decided.trans (if_pos isMatched)), fun unmatched => decide (decided.trans (if_neg ?_))⟩
    rw [unmatched]
    exact Bool.false_ne_true
  · intro u
    have decide {t : State} {reply : Reply} (decided : decideDropInterlock k u = .done t reply) :
        exec (.dropInterlock h slot) s = .next (t.answered s h reply) := by
      rw [exec_dropInterlock, execDropInterlock, numberBelow_of_eq inRange, State.serve_heard hears decided]
    have rule : u.ruleAt k = s.ruleAt k := rfl
    refine ⟨fun empty => decide ?_, fun r st fixed => decide ?_, fun r st n runtime => decide ?_⟩
    · rw [decideDropInterlock, rule, empty]
    · rw [decideDropInterlock, rule, fixed]
    · rw [decideDropInterlock, rule, runtime]
  · refine ⟨(s.heard h 0).interlockEntries, (s.heard h 0).fixedCount, ?_, State.fixedCount_eq _,
      State.pairwise_interlockEntries _, fun e => State.mem_interlockEntries⟩
    rw [exec_listInterlocks, execListInterlocks, State.serve_heard (body := fun _ => decideListInterlocks) hears rfl]

end Sys2Proof.Machine

/-! PROOFS: ACK (O43) and the filter deadlines of watches and wake watches (O44, O45). -/

namespace Sys2Proof.Machine

/-! ### ACK (R139) -/

theorem exec_ack (h : Header) (raw : List RawNoticeId) (s : State) : exec (.ack h raw) s = execAck h raw s := rfl

theorem decideAck_of_live {s : State} {n : Port} {v : Live} (ids : List NoticeId) (live : s.live n = some v) :
    decideAck n ids s = .done (s.modifyNotices n fun v => (v.acknowledgeAll ids).1)
      (Reply.of .ok (.acked (v.acknowledgeAll ids).2 (ids.length - (v.acknowledgeAll ids).2))) := by
  simp only [decideAck, live, Option.map_some, Option.getD_some]

section
variable (v : Live) {w : Live}

theorem Live.acknowledgeAll_cons_of_none {id : NoticeId} (skipped : v.acknowledge id = none) (rest : List NoticeId) :
    v.acknowledgeAll (id :: rest) = v.acknowledgeAll rest := by
  rw [Live.acknowledgeAll, skipped]

theorem Live.acknowledgeAll_cons_of_some {id : NoticeId} (cleared : v.acknowledge id = some w) (rest : List NoticeId) :
    v.acknowledgeAll (id :: rest) = ((w.acknowledgeAll rest).1, (w.acknowledgeAll rest).2 + 1) := by
  rw [Live.acknowledgeAll, cleared]

/-! The table of R139, the two cases of each kind. -/

theorem Live.acknowledge_watchEdge {k : WatchId} {x : Watch} {e : EdgeRecord} (known : v.watches.get k = some x)
    (pending : x.pending = some e) :
    v.acknowledge (.watchEdge k) = some { v with watches := v.watches.set k (some { x with pending := none }) } := by
  simp only [Live.acknowledge, known, pending]
  rfl

theorem Live.acknowledge_watchEdge_none {k : WatchId} (absent : ∀ x e, v.watches.get k = some x → x.pending ≠ some e) :
    v.acknowledge (.watchEdge k) = none := by
  cases known : v.watches.get k with
  | none => simp only [Live.acknowledge, known]
  | some x =>
    cases pending : x.pending with
    | none => simp only [Live.acknowledge, known, pending]
    | some e => exact absurd pending (absent x e known)

theorem Live.acknowledge_claimGranted {k : TicketId} {target : Target} {time : LineTime} {applied : DriveApplied}
    (granted : v.tickets.get k = .granted target time applied) :
    v.acknowledge (.claimGranted k) = some { v with tickets := v.tickets.set k .idle } := by
  simp only [Live.acknowledge, granted]
  rfl

theorem Live.acknowledge_claimGranted_none {k : TicketId}
    (absent : ∀ target time applied, v.tickets.get k ≠ .granted target time applied) :
    v.acknowledge (.claimGranted k) = none := by
  cases ticket : v.tickets.get k with
  | granted target time applied => exact absurd ticket (absent target time applied)
  | idle | waiting | expired => simp only [Live.acknowledge, ticket]

theorem Live.acknowledge_claimExpired {k : TicketId} {target : Target} {time : LineTime}
    (expired : v.tickets.get k = .expired target time) :
    v.acknowledge (.claimExpired k) = some { v with tickets := v.tickets.set k .idle } := by
  simp only [Live.acknowledge, expired]
  rfl

theorem Live.acknowledge_claimExpired_none {k : TicketId} (absent : ∀ target time, v.tickets.get k ≠ .expired target time) :
    v.acknowledge (.claimExpired k) = none := by
  cases ticket : v.tickets.get k with
  | expired target time => exact absurd ticket (absent target time)
  | idle | waiting | granted => simp only [Live.acknowledge, ticket]

theorem Live.acknowledge_seqHalted {q : SeqNumber} {slot : SlotId} {number : Nat} {reason : HaltReason} {time : LineTime}
    (halted : v.outcomes.get q = some (.halted slot number reason time)) :
    v.acknowledge (.seqHalted q) = some { v with outcomes := v.outcomes.set q none } := by
  simp only [Live.acknowledge, halted]

theorem Live.acknowledge_seqHalted_none {q : SeqNumber}
    (absent : ∀ slot number reason time, v.outcomes.get q ≠ some (.halted slot number reason time)) :
    v.acknowledge (.seqHalted q) = none := by
  cases outcome : v.outcomes.get q with
  | none => simp only [Live.acknowledge, outcome]
  | some out =>
    cases out with
    | finished slot time => simp only [Live.acknowledge, outcome]
    | halted slot number reason time => exact absurd outcome (absent slot number reason time)

theorem Live.acknowledge_seqFinished {q : SeqNumber} {slot : SlotId} {time : LineTime}
    (finished : v.outcomes.get q = some (.finished slot time)) :
    v.acknowledge (.seqFinished q) = some { v with outcomes := v.outcomes.set q none } := by
  simp only [Live.acknowledge, finished]

theorem Live.acknowledge_seqFinished_none {q : SeqNumber}
    (absent : ∀ slot time, v.outcomes.get q ≠ some (.finished slot time)) : v.acknowledge (.seqFinished q) = none := by
  cases outcome : v.outcomes.get q with
  | none => simp only [Live.acknowledge, outcome]
  | some out =>
    cases out with
    | finished slot time => exact absurd outcome (absent slot time)
    | halted slot number reason time => simp only [Live.acknowledge, outcome]

/-- R139: a second naming of the same notice names none. -/
theorem Live.acknowledge_again {id : NoticeId} (cleared : v.acknowledge id = some w) : w.acknowledge id = none := by
  cases id with
  | watchEdge k =>
    refine w.acknowledge_watchEdge_none fun y e known => ?_
    by_cases pending : ∃ x e, v.watches.get k = some x ∧ x.pending = some e
    · obtain ⟨x, e, before, pending⟩ := pending
      obtain rfl := Option.some.inj ((v.acknowledge_watchEdge before pending).symm.trans cleared)
      rw [Table.get_set, if_pos rfl] at known
      rw [← Option.some.inj known]
      exact nofun
    · have skipped := v.acknowledge_watchEdge_none fun x e before after => pending ⟨x, e, before, after⟩
      exact nomatch skipped.symm.trans cleared
  | claimGranted k =>
    refine w.acknowledge_claimGranted_none fun target time applied known => ?_
    by_cases granted : ∃ target time applied, v.tickets.get k = .granted target time applied
    · obtain ⟨_, _, _, granted⟩ := granted
      obtain rfl := Option.some.inj ((v.acknowledge_claimGranted granted).symm.trans cleared)
      rw [Table.get_set, if_pos rfl] at known
      cases known
    · have skipped := v.acknowledge_claimGranted_none fun target time applied known => granted ⟨target, time, applied, known⟩
      exact nomatch skipped.symm.trans cleared
  | claimExpired k =>
    refine w.acknowledge_claimExpired_none fun target time known => ?_
    by_cases expired : ∃ target time, v.tickets.get k = .expired target time
    · obtain ⟨_, _, expired⟩ := expired
      obtain rfl := Option.some.inj ((v.acknowledge_claimExpired expired).symm.trans cleared)
      rw [Table.get_set, if_pos rfl] at known
      cases known
    · have skipped := v.acknowledge_claimExpired_none fun target time known => expired ⟨target, time, known⟩
      exact nomatch skipped.symm.trans cleared
  | seqHalted q =>
    refine w.acknowledge_seqHalted_none fun slot number reason time known => ?_
    by_cases halted : ∃ slot number reason time, v.outcomes.get q = some (.halted slot number reason time)
    · obtain ⟨_, _, _, _, halted⟩ := halted
      obtain rfl := Option.some.inj ((v.acknowledge_seqHalted halted).symm.trans cleared)
      rw [Table.get_set, if_pos rfl] at known
      cases known
    · have skipped := v.acknowledge_seqHalted_none fun slot number reason time known =>
        halted ⟨slot, number, reason, time, known⟩
      exact nomatch skipped.symm.trans cleared
  | seqFinished q =>
    refine w.acknowledge_seqFinished_none fun slot time known => ?_
    by_cases finished : ∃ slot time, v.outcomes.get q = some (.finished slot time)
    · obtain ⟨_, _, finished⟩ := finished
      obtain rfl := Option.some.inj ((v.acknowledge_seqFinished finished).symm.trans cleared)
      rw [Table.get_set, if_pos rfl] at known
      cases known
    · have skipped := v.acknowledge_seqFinished_none fun slot time known => finished ⟨slot, time, known⟩
      exact nomatch skipped.symm.trans cleared
  | lineFaulted l | lineInherited l | termEnded l | agentLost n =>
    obtain ⟨_, -, rfl⟩ := Option.map_eq_some_iff.mp cleared
    simp only [Live.acknowledge, Table.get_set, if_true, Option.map_none]

end

/-- Settles O43: the write of ACK is `modifyNotices_of_live`; the table of R139 is read off `Live.acknowledge`. -/
theorem ackClearsWhatItNames : Obligations.AckClearsWhatItNames := by
  unfold Obligations.AckClearsWhatItNames
  refine ⟨fun h raw ids v s hears args live => ?_, fun v id rest => ⟨rfl, fun skipped => ?_, fun w cleared => ?_⟩,
    fun v => ⟨fun k => ?_, fun k => ?_, fun l => ?_, fun q => ?_, fun n => ?_⟩⟩
  · intro w cleared
    have decided := decideAck_of_live ids live
    rw [State.modifyNotices_of_live _ live] at decided
    rw [exec_ack, execAck, args, State.serve_heard hears decided]
    rfl
  · exact v.acknowledgeAll_cons_of_none skipped rest
  · exact ⟨v.acknowledge_again cleared, v.acknowledgeAll_cons_of_some cleared rest⟩
  · exact ⟨fun w e known pending => v.acknowledge_watchEdge known pending, fun absent => v.acknowledge_watchEdge_none absent⟩
  · exact ⟨fun _ _ _ granted => v.acknowledge_claimGranted granted, fun absent => v.acknowledge_claimGranted_none absent,
      fun _ _ expired => v.acknowledge_claimExpired expired, fun absent => v.acknowledge_claimExpired_none absent⟩
  · intro x cleared
    refine ⟨fun _ known => ?_, fun known => ?_, fun _ known => ?_, fun known => ?_, fun _ known => ?_, fun known => ?_⟩
    all_goals exact congrArg (Option.map _) known
  · exact ⟨fun _ _ _ _ halted => v.acknowledge_seqHalted halted, fun absent => v.acknowledge_seqHalted_none absent,
      fun _ _ finished => v.acknowledge_seqFinished finished, fun absent => v.acknowledge_seqFinished_none absent⟩
  · refine ⟨fun p known => ?_, fun none => ?_⟩
    · rw [Live.acknowledge, known, Option.map_some]
    · rw [Live.acknowledge, none, Option.map_none]

/-! ### The filter deadlines (R131, R132, R145) -/

theorem Edge.matches_iff {e : Edge} {new : Level} : e.matches new = true ↔ e.Hits new := by
  cases e <;> simp [Edge.matches, Edge.Hits]

theorem Filter.due_of_candidate {f : Filter} {c : Candidate} {now : LineTime} (candidate : f.candidate = some c)
    (reached : c.deadline = now) : f.due now = true := by
  rw [Filter.due, candidate]
  exact decide_eq_true reached

theorem Filter.take_of_candidate {f : Filter} {c : Candidate} (candidate : f.candidate = some c) :
    f.take = ({ filtered := c.level, candidate := none }, some c.since) := by
  rw [Filter.take, candidate]

section
variable {w : Watch} {c : Candidate}

/-- R131, R132: a watch record whose candidate becomes its filtered level, with edges `p` pending. -/
def Watch.settled (w : Watch) (c : Candidate) (p : Option EdgeRecord) : Watch :=
  { w with view := { filtered := c.level, candidate := none }, pending := p }

theorem Watch.take_of_hit (candidate : w.view.candidate = some c) (hit : w.edge.Hits c.level) :
    w.take = w.settled c (some (EdgeRecord.next w.pending c.since)) := by
  rw [Watch.take, Filter.take_of_candidate candidate]
  exact if_pos (Edge.matches_iff.mpr hit)

theorem Watch.take_of_miss (candidate : w.view.candidate = some c) (miss : ¬ w.edge.Hits c.level) :
    w.take = w.settled c w.pending := by
  rw [Watch.take, Filter.take_of_candidate candidate]
  exact if_neg fun hit => miss (Edge.matches_iff.mp hit)

end

theorem EdgeRecord.next_none (t : LineTime) : EdgeRecord.next none t = { count := 1, stamp := t } := rfl

theorem EdgeRecord.next_some (e : EdgeRecord) (t : LineTime) :
    EdgeRecord.next (some e) t = { e with count := if e.count = 255 then 255 else e.count + 1 } := rfl

theorem exec_filterDeadline (n : Port) (id : WatchId) (s : State) :
    exec (.filterDeadline n id) s = execFilterDeadline n id s := rfl

theorem exec_filterDeadline_of_due {s : State} {n : Port} {id : WatchId} {w : Watch} (due : s.filterDue n id = some w) :
    exec (.filterDeadline n id) s = .next (s.modifyNotices n fun v => v.setWatch id (some w.take)) := by
  rw [exec_filterDeadline, execFilterDeadline, due]

theorem State.filterDue_of_candidate {s : State} {n : Port} {id : WatchId} {v : Live} {w : Watch} {c : Candidate}
    (live : s.live n = some v) (known : v.watches.get id = some w) (candidate : w.view.candidate = some c)
    (reached : c.deadline = s.lineTime) : s.filterDue n id = some w := by
  rw [State.filterDue, State.watch, live, Option.bind_some, known, Option.bind_some,
    if_pos (Filter.due_of_candidate candidate reached)]

/-- Settles O44: the watch record afterwards is `Watch.take` of it, by whether the edge matches and what was pending. -/
theorem filterDeadlineTakesTheCandidate : Obligations.FilterDeadlineTakesTheCandidate := by
  unfold Obligations.FilterDeadlineTakesTheCandidate
  intro n id v w c s live known candidate reached pending edge
  have due := State.filterDue_of_candidate live known candidate reached
  have taken {p : Option EdgeRecord} (take : w.take = w.settled c p) : pending p := by
    have executed := exec_filterDeadline_of_due due
    rw [take, State.modifyNotices_of_live _ live] at executed
    exact executed
  refine ⟨fun miss => taken (Watch.take_of_miss candidate miss), fun hit none => taken ?_, fun e hit known below => taken ?_,
    fun e hit known full => taken ?_⟩
  · rw [Watch.take_of_hit candidate hit, none, EdgeRecord.next_none]
  · rw [Watch.take_of_hit candidate hit, known, EdgeRecord.next_some, if_neg below]
  · rw [Watch.take_of_hit candidate hit, known, EdgeRecord.next_some, if_pos full, ← full]

theorem exec_wakeFilterDeadline (k : Fin 8) (s : State) :
    exec (.wakeFilterDeadline k) s = execWakeFilterDeadline k s := rfl

theorem exec_wakeFilterDeadline_of_due {s : State} {k : Fin 8} {w : WakeWatch} (due : s.wakeDue k.val = some w) :
    exec (.wakeFilterDeadline k) s = .next (s.takeWake k.val w) := by
  rw [exec_wakeFilterDeadline, execWakeFilterDeadline, due]

theorem State.wakeDue_of_candidate {s : State} {k : Nat} {w : WakeWatch} {f : Filter} {c : Candidate}
    (known : s.wakeWatches[k]? = some w) (active : w.view = some f) (candidate : f.candidate = some c)
    (reached : c.deadline = s.lineTime) : s.wakeDue k = some w := by
  rw [State.wakeDue, known, Option.bind_some, active, Option.map_some, Filter.due_of_candidate candidate reached,
    if_pos rfl]

theorem WakeWatch.deliver_take {w : WakeWatch} {f : Filter} {c : Candidate} (active : w.view = some f)
    (candidate : f.candidate = some c) : w.deliver Filter.take =
      ({ w with view := some { filtered := c.level, candidate := none } }, w.edge.matches c.level) := by
  simp only [WakeWatch.deliver, active, Filter.take_of_candidate candidate, Option.isSome_some, Bool.true_and]

/-- Settles O45: the delivery of `Filter.take` to the wake watch. -/
theorem wakeFilterDeadlineRaisesTheOutput : Obligations.WakeFilterDeadlineRaisesTheOutput := by
  unfold Obligations.WakeFilterDeadlineRaisesTheOutput
  intro k w f c s known active candidate reached taken edge
  have due := State.wakeDue_of_candidate known active candidate reached
  rw [exec_wakeFilterDeadline_of_due due, State.takeWake, WakeWatch.deliver_take active candidate]
  refine ⟨fun hit => ?_, fun miss => ?_⟩
  · rw [if_pos (Edge.matches_iff.mpr hit)]
    rfl
  · rw [if_neg fun isHit => miss (Edge.matches_iff.mp isHit)]

end Sys2Proof.Machine

/-! PROOFS: an observed-level change (O29): what it writes into its line, into the watches of the sessions and into the
wake watches. -/

namespace Sys2Proof.Machine

/-! ### The pad of a line (R1) -/

theorem Drive.entryLevel_eq_some_iff {present d : Drive} {level : Level} :
    present.entryLevel d = some level ↔ d = .keep level ∧ present ≠ d := by
  cases d with
  | keep entered =>
    rw [Drive.entryLevel, Option.ite_none_left_eq_some, Option.some.injEq, Drive.keep.injEq, and_comm]
  | float | sink | drive => exact ⟨nofun, nofun⟩

section
variable {ln : Line} {level : Level}

theorem Line.pad_highImpedance (drive : ln.drive = .float ∨ ln.drive = .sink true) : ln.pad = .highImpedance := by
  rw [Line.pad]
  obtain drive | drive := drive <;> rw [drive]

theorem Line.pad_sink (drive : ln.drive = .sink false) : ln.pad = .strong false := by rw [Line.pad, drive]

theorem Line.pad_drive (drive : ln.drive = .drive level) : ln.pad = .strong level := by rw [Line.pad, drive]

theorem Line.pad_keep {held : Level} {k : Keeper} (drive : ln.drive = .keep held) (keeper : ln.keeper = some k) :
    ln.pad = .weakHold k.level := by
  rw [Line.pad, drive, keeper]
  rfl

/-! ### The line record at a change (R2, R13) -/

/-- R13: the readback check of a line that is sensed at `level`, by the case it was in. -/
theorem Line.sensed_off (off : ln.readback = .off) (deadline : LineTime) : (ln.sensed level).checkLevel deadline =
    { ln with observed := level, keeper := ln.keeper.map fun k => { k with level := level }, readback := .off } := by
  simp only [Line.checkLevel, Line.sensed, Line.followed, off]

theorem Line.sensed_armed (armed : ln.readback = .armed) (deadline : LineTime) : (ln.sensed level).checkLevel deadline =
    { ln with
      observed := level
      keeper := ln.keeper.map fun k => { k with level := level }
      readback := if ln.drive.asserted = some level then .armed else .counting deadline } := by
  simp only [Line.checkLevel, Line.sensed, Line.followed, armed]
  split_ifs <;> rfl

theorem Line.sensed_counting {d : LineTime} (counting : ln.readback = .counting d) (deadline : LineTime) :
    (ln.sensed level).checkLevel deadline =
      { ln with
        observed := level
        keeper := ln.keeper.map fun k => { k with level := level }
        readback := if ln.drive.asserted = some level then .armed else .counting d } := by
  simp only [Line.checkLevel, Line.sensed, Line.followed, counting]
  split_ifs <;> rfl

end

/-! ### Filters, watches and wake watches at a change (R131, R132, R145) -/

theorem Filter.levelChange_fst (f : Filter) (time : Nat) (new : Level) (now : LineTime) :
    (f.levelChange time new now).1 = f.changed time new now := by
  unfold Filter.levelChange Filter.changed
  split_ifs <;> rfl

/-- R131: an edge begins at once where the filtered level is another and the filter is 0. -/
theorem Filter.levelChange_snd (f : Filter) (time : Nat) (new : Level) (now : LineTime) :
    (f.levelChange time new now).2 = if new ≠ f.filtered ∧ time = 0 then some now else none := by
  unfold Filter.levelChange
  by_cases same : new = f.filtered <;> by_cases zero : time = 0 <;> simp [same, zero]

theorem Filter.changed_filtered {f : Filter} {time : Nat} {new : Level} (now : LineTime)
    (edge : new ≠ f.filtered ∧ time = 0) : (f.changed time new now).filtered = new := by
  rw [Filter.changed, if_neg edge.1, if_pos edge.2]

theorem Watch.edgeTaken_some (w : Watch) (now : LineTime) : w.edgeTaken (some now) =
    { w with pending := if w.edge.Hits w.view.filtered then some (EdgeRecord.next w.pending now) else w.pending } := by
  rw [Watch.edgeTaken]
  by_cases hit : w.edge.Hits w.view.filtered
  · rw [if_pos (Edge.matches_iff.mpr hit), if_pos hit]
  · rw [if_neg fun isHit => hit (Edge.matches_iff.mp isHit), if_neg hit]

theorem Watch.levelChange_eq (w : Watch) (new : Level) (now : LineTime) : w.levelChange new now = w.changed new now := by
  rw [Watch.levelChange, Filter.levelChange_fst, Filter.levelChange_snd]
  by_cases edge : new ≠ w.view.filtered ∧ w.filter = 0
  · rw [if_pos edge, Watch.edgeTaken_some, Watch.changed, Filter.changed_filtered now edge]
    by_cases hit : w.edge.Hits new
    · rw [if_pos hit, if_pos ⟨edge.1, edge.2, hit⟩]
      cases w.pending <;> rfl
    · rw [if_neg hit, if_neg fun all => hit all.2.2]
  · rw [if_neg edge, Watch.edgeTaken, Watch.changed, if_neg fun all => edge ⟨all.1, all.2.1⟩]

section
variable {change : WakeWatch → Filter → Filter × Option LineTime}

theorem deliverWakes_fst : ∀ (ws : List WakeWatch) (out : Vector Bool 3),
    (deliverWakes change out ws).1 = ws.map fun w => (w.deliver (change w)).1
  | [], _ => rfl
  | w :: ws, out => by rw [deliverWakes, List.map_cons, deliverWakes_fst ws]

/-- R145: a wake output is high after the deliveries where it was, or where a delivery raised it. -/
theorem deliverWakes_snd {n : Port} : ∀ (ws : List WakeWatch) (out : Vector Bool 3),
    (deliverWakes change out ws).2.get n = true ↔
      out.get n = true ∨ ∃ w ∈ ws, w.target = n ∧ (w.deliver (change w)).2 = true
  | [], out => by simp [deliverWakes]
  | w :: ws, out => by
    rw [deliverWakes, deliverWakes_snd ws, List.exists_mem_cons_iff, ← or_assoc]
    refine or_congr_left ?_
    by_cases raised : (w.deliver (change w)).2 = true
    · rw [if_pos raised, Table.get_set]
      by_cases own : n = w.target
      · simp [own, raised]
      · simp [own, Ne.symm own]
    · simp [raised]

end

section
variable (l : LineId) (level : Level) (now : LineTime) (w : WakeWatch)

/-- R145: what a change of line `l` does to the filter of a wake watch. -/
def WakeWatch.changeOf (f : Filter) : Filter × Option LineTime :=
  if w.line = l then f.levelChange w.filter level now else (f, none)

theorem WakeWatch.deliver_fst : (w.deliver (w.changeOf l level now)).1 =
    if w.line = l then { w with view := w.view.map fun f => f.changed w.filter level now } else w := by
  unfold WakeWatch.deliver WakeWatch.changeOf
  cases active : w.view with
  | none =>
    dsimp only
    rw [Option.map_none, ← active, ite_self]
  | some f =>
    dsimp only
    split_ifs
    · rw [Filter.levelChange_fst, Option.map_some]
    · rw [← active]

theorem WakeWatch.deliver_snd : (w.deliver (w.changeOf l level now)).2 = true ↔
    w.line = l ∧ w.filter = 0 ∧ w.edge.Hits level ∧ ∃ f ∈ w.view, f.filtered ≠ level := by
  unfold WakeWatch.deliver WakeWatch.changeOf
  cases active : w.view with
  | none => simp
  | some f =>
    dsimp only
    by_cases own : w.line = l
    · by_cases edge : level ≠ f.filtered ∧ w.filter = 0
      · rw [if_pos own, Filter.levelChange_fst, Filter.levelChange_snd, if_pos edge, Filter.changed_filtered now edge,
          Option.isSome_some, Bool.true_and, Edge.matches_iff]
        simp [own, edge.2, Ne.symm edge.1]
      · rw [if_pos own, Filter.levelChange_snd, if_neg edge]
        simp only [Option.isSome_none, Bool.false_and, Bool.false_eq_true, false_iff]
        rintro ⟨-, zero, -, g, known, other⟩
        rw [← Option.some.inj known] at other
        exact edge ⟨other.symm, zero⟩
    · simp [own]

end

/-! ### The sessions' watches at a change (R131, R132, R142) -/

section
variable {l : LineId} {level : Level}

theorem State.live_watchLine (s : State) (n m : Port) : (s.watchLine l level n).live m =
    if m = n then (s.live n).map fun v => v.levelChange l level s.lineTime else s.live m :=
  State.live_modifyLive s n m _

theorem State.watchLine_same (s : State) (n : Port) : s.SameButNotices (s.watchLine l level n) :=
  s.modifyNotices_same n _

/-- The watches of a list of ports told of the change. -/
def State.watchPorts (l : LineId) (level : Level) (ports : List Port) (s : State) : State :=
  ports.foldl (fun s n => s.watchLine l level n) s

theorem State.watchPorts_same (ports : List Port) (s : State) : s.SameButNotices (State.watchPorts l level ports s) := by
  induction ports generalizing s with
  | nil => exact .refl s
  | cons n rest ih => exact (s.watchLine_same n).trans (ih _)

theorem State.live_watchPorts {ports : List Port} (distinct : ports.Nodup) (s : State) (m : Port) :
    (State.watchPorts l level ports s).live m =
      if m ∈ ports then (s.live m).map fun v => v.levelChange l level s.lineTime else s.live m := by
  induction ports generalizing s with
  | nil => simp [State.watchPorts]
  | cons n rest ih =>
    obtain ⟨notAgain, distinct⟩ := List.nodup_cons.mp distinct
    have time : (s.watchLine l level n).lineTime = s.lineTime := (s.watchLine_same n).lineTime
    refine (ih distinct _).trans ?_
    rw [time, State.live_watchLine]
    by_cases same : m = n
    · subst same
      rw [if_neg notAgain, if_pos rfl, if_pos List.mem_cons_self]
    · simp only [same, if_false, List.mem_cons, false_or]

theorem State.attentionDue_congr {s t : State} {n : Port} (live : t.live n = s.live n) :
    t.attentionDue n = s.attentionDue n := by
  rw [State.attentionDue, State.attentionDue, live]

/-- R142: the attention output of each port told is what its notices ask. -/
theorem State.attention_watchPorts (ports : List Port) (s : State) (m : Port)
    (told : m ∈ ports ∨ s.attention.get m = s.attentionDue m) :
    (State.watchPorts l level ports s).attention.get m = (State.watchPorts l level ports s).attentionDue m := by
  induction ports generalizing s with
  | nil => exact told.resolve_left List.not_mem_nil
  | cons n rest ih =>
    refine ih (s.watchLine l level n) ?_
    by_cases same : m = n
    · subst same
      refine .inr ?_
      rw [State.watchLine, State.modifyNotices, State.attention_reattend, if_pos rfl]
      rfl
    · refine told.imp (fun listed => (List.mem_cons.mp listed).resolve_left same) fun due => ?_
      have live : (s.watchLine l level n).live m = s.live m := by rw [State.live_watchLine, if_neg same]
      rw [State.attentionDue_congr live, ← due, State.watchLine, State.attention_modifyNotices, if_neg same]

theorem Live.levelChange_watches (v : Live) (now : LineTime) (id : WatchId) :
    (v.levelChange l level now).watches.get id =
      (v.watches.get id).map fun x => if x.line = l then x.changed level now else x := by
  simp only [Live.levelChange, Table.get_map, Watch.levelChange_eq]

end

/-! ### The event (R2) -/

theorem exec_observedLevelChange (l : LineId) (level : Level) (s : State) :
    exec (.observedLevelChange l level) s = execObservedLevelChange l level s := rfl

section
variable (s : State) (l : LineId) (level : Level)

/-- The state at an observed-level change before the wake watches are told. -/
def State.observing : State := State.watchPorts l level (List.finRange 3) (s.senseLine l level)

theorem State.observe_eq : s.observe l level = (s.observing l level).wakeLine l level := rfl

theorem State.observing_same : (s.senseLine l level).SameButNotices (s.observing l level) :=
  State.watchPorts_same _ _

theorem State.live_observing (m : Port) : (s.observing l level).live m =
    (s.live m).map fun v => v.levelChange l level s.lineTime := by
  rw [State.observing, State.live_watchPorts (List.nodup_finRange 3), if_pos (List.mem_finRange m)]
  rfl

theorem State.attention_observing (m : Port) :
    (s.observing l level).attention.get m = (s.observing l level).attentionDue m :=
  State.attention_watchPorts _ _ m (.inl (List.mem_finRange m))

theorem State.wakeWatches_wakeLine (u : State) : (u.wakeLine l level).wakeWatches =
    u.wakeWatches.map fun w => (w.deliver (w.changeOf l level u.lineTime)).1 := deliverWakes_fst _ _

theorem State.wakeOut_wakeLine (u : State) (n : Port) : (u.wakeLine l level).wakeOut.get n = true ↔
    u.wakeOut.get n = true ∨ ∃ w ∈ u.wakeWatches, w.target = n ∧ (w.deliver (w.changeOf l level u.lineTime)).2 = true :=
  deliverWakes_snd _ _

theorem State.line_senseLine_other {m : LineId} (other : m ≠ l) : (s.senseLine l level).line m = s.line m := by
  rw [State.senseLine, State.line_modifyLine, if_neg other]

theorem State.line_senseLine : (s.senseLine l level).line l =
    ((s.line l).sensed level).checkLevel (s.lineTime + BitVec.ofNat 32 (s.line l).static.settle) := by
  rw [State.senseLine, State.line_modifyLine_self]
  rfl

end

/-- Settles O29: the change reaches its line by `senseLine`, each port's watches by `watchPorts`, and the wake watches by
`deliverWakes`. -/
theorem observedLevelChangeReachesTheLine : Obligations.ObservedLevelChangeReachesTheLine := by
  unfold Obligations.ObservedLevelChangeReachesTheLine
  refine ⟨fun ln present d level now => ⟨ln.command_present now, Line.command_keep now, Drive.entryLevel_eq_some_iff,
    Line.pad_highImpedance, Line.pad_sink, Line.pad_drive, fun _ _ => Line.pad_keep⟩, fun l level s => ⟨fun idle => ?_,
    fun high changed => ?_⟩⟩
  · rw [exec_observedLevelChange, execObservedLevelChange, if_pos idle]
  · have executed : exec (.observedLevelChange l level) s = .next (s.observe l level) := by
      rw [exec_observedLevelChange, execObservedLevelChange, if_neg]
      simp [high, changed]
    have same := s.observing_same l level
    have wakes : (s.observing l level).wakeWatches = s.wakeWatches ∧ (s.observing l level).wakeOut = s.wakeOut ∧
        (s.observing l level).lineTime = s.lineTime ∧ (s.observing l level).lines = (s.senseLine l level).lines := by
      unfold State.SameButNotices at same
      rw [same]
      exact ⟨rfl, rfl, rfl, rfl⟩
    obtain ⟨watches, out, time, lines⟩ := wakes
    have line (m : LineId) : (s.observe l level).line m = (s.senseLine l level).line m :=
      congrArg (fun lines : Vector Line 48 => lines.get m) lines
    have live (n : Port) : (s.observe l level).live n = (s.live n).map fun v => v.levelChange l level s.lineTime :=
      s.live_observing l level n
    refine ⟨_, executed, ?_, fun m other => ?_, ?_, fun n => ⟨?_, fun v before w after => ?_⟩,
      s.attention_observing l level, ?_, fun n => ?_⟩
    · unfold State.SameButNotices at same
      rw [State.observe_eq, same]
      rfl
    · rw [line, State.line_senseLine_other s l level other]
    · rw [line, State.line_senseLine]
      cases readback : (s.line l).readback with
      | off => exact Line.sensed_off readback _
      | armed => exact Line.sensed_armed readback _
      | counting d => exact Line.sensed_counting readback _
    · rw [State.isOpen, live, Option.isSome_map, State.isOpen]
    · rw [live, Option.mem_def.mp before] at after
      obtain rfl := Option.some.inj after
      exact ⟨rfl, v.levelChange_watches s.lineTime⟩
    · rw [State.observe_eq, State.wakeWatches_wakeLine, watches, time]
      simp only [WakeWatch.deliver_fst]
    · rw [State.observe_eq, State.wakeOut_wakeLine, watches, time, out]
      simp only [WakeWatch.deliver_snd]

end Sys2Proof.Machine

/-! PROOFS: the deadlines of lines. The end of a stage (O30), a line that becomes FREE and the scan (O31), the readback
deadline (O32) and the term deadline (O33). -/

namespace Sys2Proof.Machine

/-! ### What a settled table is (R65) -/

section
variable {s t u : State} {l : LineId}

theorem State.settledTo_settled (s : State) (l : LineId) (f : Line → Line) :
    s.SettledTo (s.modifyLine l f).settleReserved := by
  intro k
  rw [State.ruleAt_settleReserved, State.assertion_settleReserved]
  have same : (s.modifyLine l f).ruleAt k = s.ruleAt k := rfl
  rw [same]
  cases s.ruleAt k with
  | empty => rfl
  | rule r status origin => cases status <;> rfl

/-- A change that leaves the table and what the lines assert leaves the table settled. -/
theorem State.SettledTo.congr (settled : s.SettledTo t) (interlocks : u.interlocks = t.interlocks)
    (assertion : u.assertion = t.assertion) : s.SettledTo u := by
  intro k
  rw [State.ruleAt, interlocks, assertion]
  exact settled k

theorem State.SettledTo.modifyLine (settled : s.SettledTo t) {f : Line → Line}
    (levels : (f (t.line l)).levels = (t.line l).levels) : s.SettledTo (t.modifyLine l f) :=
  settled.congr rfl ((LineChange.modifyLine t l f).assertion (by rw [State.line_modifyLine_self, levels]))

theorem State.SettledTo.enterChecked (settled : s.SettledTo t) (l : LineId) : s.SettledTo (t.enterChecked l) := by
  refine settled.congr (State.interlocks_enterChecked t l) ((LineChange.enterChecked t l).assertion ?_)
  rw [State.line_enterChecked, Line.checkedIn_eq]
  rfl

end

/-! ### The end of a stage (R7, R25, R26) -/

theorem exec_stageEnd (l : LineId) (s : State) : exec (.stageEnd l) s = execStageEnd l s := rfl

section
variable {s : State} {l : LineId} {m : Move}

theorem exec_stageEnd_of_due (move : (s.line l).move = some m) (reached : m.deadline = s.lineTime) :
    exec (.stageEnd l) s = .next (s.endStage l m) := by
  have due : s.stageDue l = some m := by rw [State.stageDue, move, Option.bind_some, if_pos reached]
  rw [exec_stageEnd, execStageEnd, due]

theorem State.endStage_first {first target : Drive} (stages : m.stages = .two first target) (index : m.index = .first) :
    s.endStage l m = s.secondStage l m := by
  rw [State.endStage, stages, index]

theorem State.endStage_last (last : ∀ first target, m.stages = .two first target → m.index = .second) :
    s.endStage l m = (s.moveRemoved l).completeMove l := by
  rw [State.endStage]
  cases stages : m.stages with
  | one target => rfl
  | two first target => rw [last first target stages]; rfl

theorem State.completeMove_free (releasing : (s.line l).state = .releasing) :
    s.completeMove l = (s.modifyLine l fun ln => { ln with state := .free }).scan := by
  rw [State.completeMove, releasing]

theorem State.completeMove_due (moving : (s.line l).state = .moving) (due : (s.line l).termDue = true) :
    s.completeMove l = s.expire l := by
  simp only [State.completeMove, moving, due, if_true]

/-- R25: a line whose move has completed is HELD, and checked. -/
def State.becomeHeld (s : State) (l : LineId) : State :=
  (s.modifyLine l fun ln => { ln with state := .held }).enterChecked l

theorem State.line_becomeHeld (s : State) (l : LineId) : (s.becomeHeld l).line l =
    ({ s.line l with state := .held } : Line).checkedIn s.lineTime := by
  rw [State.becomeHeld, State.line_enterChecked, State.line_modifyLine_self, State.modifyLine_lineTime]

theorem State.LineChange.becomeHeld (s : State) (l : LineId) : s.LineChange (s.becomeHeld l) l :=
  (modifyLine s l _).trans (.enterChecked _ l)

theorem State.SettledTo.becomeHeld {t : State} (settled : s.SettledTo t) (l : LineId) : s.SettledTo (t.becomeHeld l) :=
  (settled.modifyLine (f := fun ln => { ln with state := .held }) rfl).enterChecked l

theorem State.binding_becomeHeld (s : State) (l : LineId) :
    ((s.becomeHeld l).line l).binding = (s.line l).binding := by
  rw [State.line_becomeHeld, Line.checkedIn_binding]

theorem State.completeMove_unbound (moving : (s.line l).state = .moving) (notDue : (s.line l).termDue = false)
    (unbound : (s.line l).binding = none) : s.completeMove l = s.becomeHeld l := by
  have binding := s.binding_becomeHeld l
  rw [unbound, State.becomeHeld] at binding
  simp only [State.completeMove, moving, notDue, Bool.false_eq_true, if_false, binding]
  rfl

theorem State.completeMove_bound {k : SlotId} (moving : (s.line l).state = .moving) (notDue : (s.line l).termDue = false)
    (bound : (s.line l).binding = some k) : s.completeMove l = (s.becomeHeld l).stepMoveEnded k := by
  have binding := s.binding_becomeHeld l
  rw [bound, State.becomeHeld] at binding
  simp only [State.completeMove, moving, notDue, Bool.false_eq_true, if_false, binding]
  rfl

theorem State.settledTo_moveRemoved (s : State) (l : LineId) : s.SettledTo (s.moveRemoved l) := s.settledTo_settled l _

@[simp] theorem State.lineTime_moveRemoved (s : State) (l : LineId) : (s.moveRemoved l).lineTime = s.lineTime :=
  (LineChange.moveRemoved s l).same.lineTime

end

/-! ### The end of a term (R36) -/

section
variable {s : State} {l : LineId} {n : Port} {v : Live}

theorem State.expire_of_agent (holder : (s.line l).holder = .agent n) :
    s.expire l = (s.beginRelease l .termEnded (s.releaseTarget l)).postTermEnded n l := by
  rw [State.expire, holder]

theorem State.SameButNotices.line {t : State} (same : s.SameButNotices t) (m : LineId) : t.line m = s.line m := by
  rw [State.line, same.lines, State.line]

/-- R136: a session with the notices of one line changed. -/
def Live.noticed (v : Live) (l : LineId) (f : LineNotices → LineNotices) : Live :=
  { v with lineNotices := v.lineNotices.set l (f (v.lineNotices.get l)) }

theorem Live.lineNotices_noticed (v : Live) (l : LineId) (f : LineNotices → LineNotices) :
    (v.noticed l f).lineNotices.get l = f (v.lineNotices.get l) := by
  rw [Live.noticed, Table.get_set, if_pos rfl]

theorem State.live_postLine (s : State) (n m : Port) (l : LineId) (f : LineNotices → LineNotices) :
    (s.postLine n l f).live m = if m = n then (s.live n).map (·.noticed l f) else s.live m :=
  State.live_modifyLive s n m _

theorem State.line_expire (holder : (s.line l).holder = .agent n) :
    (s.expire l).line l = (s.line l).released .termEnded (s.releaseTarget l) s.lineTime := by
  rw [State.expire_of_agent holder, ← State.line_beginRelease]
  exact (State.modifyNotices_same _ n _).line l

theorem State.line_expire_other (holder : (s.line l).holder = .agent n) {m : LineId} (other : m ≠ l) :
    (s.expire l).line m = s.line m := by
  rw [State.expire_of_agent holder, ← State.line_beginRelease_other s .termEnded (s.releaseTarget l) other]
  exact (State.modifyNotices_same _ n _).line m

/-- R136: a line notice is posted with its first line time. -/
theorem orElse_some_eq (first : Option LineTime) (now : LineTime) : (first <|> some now) = some (first.getD now) := by
  cases first <;> rfl

theorem State.live_expire (holder : (s.line l).holder = .agent n) (live : s.live n = some v) :
    ∃ w ∈ (s.expire l).live n,
      (w.lineNotices.get l).termEnded = some (((v.lineNotices.get l).termEnded).getD s.lineTime) := by
  have same := State.beginRelease_same s l .termEnded (s.releaseTarget l)
  have alive : (s.expire l).live n = some (v.noticed l fun x => { x with termEnded := x.termEnded <|> some s.lineTime }) := by
    rw [State.expire_of_agent holder, State.postTermEnded, State.live_postLine, if_pos rfl, same.live, live, same.lineTime,
      Option.map_some]
  refine ⟨_, alive, ?_⟩
  rw [Live.lineNotices_noticed]
  exact orElse_some_eq _ _

/-- R36: nothing but the lines, the table, the sessions and the attention outputs changes. -/
theorem State.frame_of_lines_notices {t u : State} (lines : s.SameButLines t) (notices : t.SameButNotices u) :
    u = { s with lines := u.lines, interlocks := u.interlocks, sessions := u.sessions, attention := u.attention } := by
  unfold State.SameButLines at lines
  unfold State.SameButNotices at notices
  rw [notices, lines]

theorem Line.released_stopped (ln : Line) (reason : FreeReason) (t : Drive) (now : LineTime) :
    ({ ln with move := none } : Line).released reason t now = ln.released reason t now := rfl

end

/-- Settles O30: the second stage is `secondStage`; after the last the line is HELD, or its term's end is due. -/
theorem stageEndContinuesOrCompletesTheMove : Obligations.StageEndContinuesOrCompletesTheMove := by
  unfold Obligations.StageEndContinuesOrCompletesTheMove
  intro l m s move reached ends
  have executed := exec_stageEnd_of_due move reached
  have removed := State.LineChange.moveRemoved s l
  have line := s.line_moveRemoved l
  refine ⟨fun first target stages index => ?_, fun last moving notDue unbound => ?_,
    fun last moving due n v holder live => ?_⟩
  · rw [State.endStage_first stages index] at executed
    have change : s.LineChange (s.secondStage l m) l := .settled s l _
    refine ⟨_, executed, change.same.onlyLines, s.settledTo_settled l _, ?_, change.others⟩
    rw [State.line_secondStage, stages]
    rfl
  · rw [State.endStage_last last, State.completeMove_unbound (by rw [line]; exact moving) (by rw [line]; exact notDue)
      (by rw [line]; exact unbound)] at executed
    have change := removed.trans (.becomeHeld _ l)
    refine ⟨_, executed, change.same.onlyLines, (s.settledTo_moveRemoved l).becomeHeld l, ?_, change.others⟩
    rw [State.line_becomeHeld, line, State.lineTime_moveRemoved]
  · rw [State.endStage_last last, State.completeMove_due (by rw [line]; exact moving) (by rw [line]; exact due)] at executed
    have held : ((s.moveRemoved l).line l).holder = .agent n := by rw [line]; exact holder
    have kept : (s.moveRemoved l).live n = some v := (removed.same.live n).trans live
    refine ⟨s.moveRemoved l, _, (s.moveRemoved l).releaseTarget l, executed, removed.same.onlyLines,
      s.settledTo_moveRemoved l, line, fun k other => ⟨removed.others k other, ?_⟩, ?_, fun present => ?_,
      fun fallback => ?_, ?_⟩
    · rw [State.line_expire_other held other, removed.others k other]
    · rw [State.line_expire held, line, State.lineTime_moveRemoved, Line.released_stopped]
    · rw [State.releaseTarget_present (by rw [line]; exact present), line]
    · rw [State.releaseTarget_fallback (by rw [line]; exact fallback), line]
      rfl
    · obtain ⟨w, alive, posted⟩ := State.live_expire held kept
      exact ⟨w, alive, by rw [posted]; rfl⟩

/-! ### The scan of the pending list (R80, R81) -/

section
variable {s : State} {e : Entry}

/-- R27: the lines of a grant, and nothing else. -/
theorem State.grantLines_eq (s : State) (agent : Port) (term : Option Nat) (ls : List LineId) :
    s.grantLines agent term ls = { s with
      lines := Vector.ofFn fun l => if l ∈ ls then (s.line l).granted agent term s.lineTime else s.line l } := by
  have same := s.grantLines_same agent term ls
  have lines : (s.grantLines agent term ls).lines =
      Vector.ofFn fun l => if l ∈ ls then (s.line l).granted agent term s.lineTime else s.line l := by
    refine Table.ext fun l => ?_
    rw [Table.get_ofFn]
    exact s.line_grantLines agent term ls l
  unfold State.SameButLines at same
  rw [same, lines, State.interlocks_grantLines]

/-- R81, step 3: the entry leaves the list and its ticket is GRANTED. -/
theorem State.granted_ticket (s u : State) (e : Entry) (applied : DriveApplied) (same : s.SameButLines u) :
    let live := (s.live e.agent).map fun v =>
      { v with tickets := v.tickets.set e.ticket (.granted e.target s.lineTime applied) }
    (u.removeEntry e.agent e.ticket).setTicket e.agent e.ticket (.granted e.target s.lineTime applied) = { u with
      sessions := s.sessions.set e.agent { s.session e.agent with live := live }
      attention := s.attention.set e.agent ((live.map Live.alerts).getD false)
      pendingList := s.pendingList.filter fun d => decide (¬ (d.agent = e.agent ∧ d.ticket = e.ticket)) } := by
  intro live
  have left := State.removeEntry_pendingList u e.agent e.ticket
  unfold State.SameButLines at same
  rw [State.setTicket, State.modifyNotices_eq, left, same]
  rfl

theorem State.entryGranted_grantEntry (s : State) (e : Entry) : EntryGranted s (s.grantEntry e) e := by
  have lines := s.grantLines_eq e.agent e.term e.target.lines
  have same := s.grantLines_same e.agent e.term e.target.lines
  unfold EntryGranted State.grantEntry
  rw [← lines]
  generalize granted : s.grantLines e.agent e.term e.target.lines = g at same
  intro g'
  unfold State.applyInitial
  cases drive : e.drive with
  | none => exact ⟨g, .notAsked, ⟨rfl, rfl⟩, s.granted_ticket g e _ same⟩
  | some d =>
    dsimp only
    cases driven : g.driveAll (proposals e.target.lines d) with
    | error refused =>
      obtain ⟨slot, l⟩ := refused
      exact ⟨g, .no slot l, .inl ⟨slot, l, rfl, rfl, rfl⟩, s.granted_ticket g e _ same⟩
    | ok u =>
      have drives := State.driveAll_same _ g u driven
      refine ⟨u, .yes, .inr ⟨rfl, rfl, drives.onlyLines, fun l => ?_⟩, s.granted_ticket u e _ (same.trans drives)⟩
      rw [← granted] at driven
      rw [State.line_grantLines_driveAll driven]
      have given : g'.line l = if l ∈ e.target.lines then (s.line l).granted e.agent e.term s.lineTime else s.line l := by
        rw [← State.line_grantLines, granted]
      rw [given]
      split_ifs <;> rfl

theorem State.scanned_scanEntries : ∀ (es : List Entry) (s : State), Scanned es s (State.scanEntries es s)
  | [], _ => rfl
  | e :: rest, s => by
    rw [Scanned, State.scanEntries]
    by_cases free : ∀ l ∈ e.target.lines, (s.line l).state = .free
    · rw [if_pos free, if_pos (State.allFree_iff.mpr free)]
      exact ⟨_, s.entryGranted_grantEntry e, scanned_scanEntries rest _⟩
    · rw [if_neg free, if_neg fun all => free (State.allFree_iff.mp all)]
      exact scanned_scanEntries rest s

theorem State.scanEntries_append (first rest : List Entry) (s : State) :
    State.scanEntries (first ++ rest) s = State.scanEntries rest (State.scanEntries first s) := by
  induction first generalizing s with
  | nil => rfl
  | cons e first ih => exact ih _

/-- R80: entries that wait for a line that is not FREE are passed over. -/
theorem State.scanEntries_blocked {es : List Entry}
    (blocked : ∀ e ∈ es, ∃ l ∈ e.target.lines, (s.line l).state ≠ .free) : State.scanEntries es s = s := by
  induction es with
  | nil => rfl
  | cons e rest ih =>
    obtain ⟨here, later⟩ := List.forall_mem_cons.mp blocked
    rw [State.scanEntries, State.allFree_eq_false here, if_neg Bool.false_ne_true]
    exact ih later

/-- R81: an entry with no drive, granted: its lines, the pending list and its ticket. -/
theorem State.grantEntry_noDrive (noDrive : e.drive = none) : s.grantEntry e =
    ((s.grantLines e.agent e.term e.target.lines).removeEntry e.agent e.ticket).setTicket e.agent e.ticket
      (.granted e.target s.lineTime .notAsked) := by
  simp only [State.grantEntry, State.applyInitial, noDrive]

theorem State.line_grantEntry_noDrive (noDrive : e.drive = none) (l : LineId) : (s.grantEntry e).line l =
    if l ∈ e.target.lines then (s.line l).granted e.agent e.term s.lineTime else s.line l := by
  rw [State.grantEntry_noDrive noDrive, ← State.line_grantLines]
  exact (State.modifyNotices_same _ _ _).line l

theorem State.pendingList_grantEntry_noDrive (noDrive : e.drive = none) : (s.grantEntry e).pendingList =
    s.pendingList.filter fun d => decide (¬ (d.agent = e.agent ∧ d.ticket = e.ticket)) := by
  rw [State.grantEntry_noDrive noDrive,
    s.granted_ticket _ e _ (s.grantLines_same e.agent e.term e.target.lines)]

theorem State.live_grantEntry_noDrive (noDrive : e.drive = none) {v : Live} (live : s.live e.agent = some v) :
    (s.grantEntry e).live e.agent =
      some { v with tickets := v.tickets.set e.ticket (.granted e.target s.lineTime .notAsked) } := by
  rw [State.grantEntry_noDrive noDrive,
    s.granted_ticket _ e _ (s.grantLines_same e.agent e.term e.target.lines), State.live, State.session, Table.get_set,
    if_pos rfl, live, Option.map_some]

end

/-- Settles O31: the scan from the state in which the line is FREE. -/
theorem lineBecomesFreeAndTheListIsScanned : Obligations.LineBecomesFreeAndTheListIsScanned := by
  unfold Obligations.LineBecomesFreeAndTheListIsScanned
  intro l m s move reached last releasing free
  have line := s.line_moveRemoved l
  have executed := exec_stageEnd_of_due move reached
  rw [State.endStage_last last, State.completeMove_free (by rw [line]; exact releasing)] at executed
  have change : s.LineChange ((s.moveRemoved l).modifyLine l fun ln => { ln with state := .free }) l :=
    (State.LineChange.moveRemoved s l).trans (.modifyLine _ l _)
  have settled : s.SettledTo ((s.moveRemoved l).modifyLine l fun ln => { ln with state := .free }) :=
    (s.settledTo_moveRemoved l).modifyLine rfl
  have own : ((s.moveRemoved l).modifyLine l fun ln => { ln with state := .free }).line l = free := by
    rw [State.line_modifyLine_self, line]
  generalize ((s.moveRemoved l).modifyLine l fun ln => { ln with state := .free }) = u at executed change settled own
  have list : u.pendingList = s.pendingList := change.same.pendingList
  have blocked {d : Entry} (waits : ∃ k ∈ d.target.lines, k ≠ l ∧ (s.line k).state ≠ .free) :
      ∃ k ∈ d.target.lines, (u.line k).state ≠ .free := by
    obtain ⟨k, listed, other, busy⟩ := waits
    exact ⟨k, listed, by rw [change.others k other]; exact busy⟩
  rw [State.scan, list] at executed
  refine ⟨fun waits => ?_, fun first e rest v entries target noDrive live apart before after => ?_,
    u, _, executed, change.same.onlyLines, settled, own, change.others, State.scanned_scanEntries _ u⟩
  · rw [State.scanEntries_blocked fun d listed => blocked (waits d listed)] at executed
    exact ⟨u, executed, change.same.onlyLines, own, change.others⟩
  · have alone : e.target.lines = [l] := by rw [target]; rfl
    have held (k : LineId) : (u.grantEntry e).line k = if k = l then free.granted e.agent e.term s.lineTime else s.line k := by
      rw [State.line_grantEntry_noDrive noDrive, alone, change.same.lineTime]
      by_cases same : k = l
      · rw [if_pos (List.mem_singleton.mpr same), if_pos same, same, own]
      · rw [if_neg fun listed => same (List.mem_singleton.mp listed), if_neg same, change.others k same]
    have granted : State.scanEntries s.pendingList u = u.grantEntry e := by
      rw [entries, State.scanEntries_append, State.scanEntries_blocked fun d listed => blocked (before d listed),
        State.scanEntries, State.allFree_eq_true, if_pos rfl]
      · refine State.scanEntries_blocked fun d listed => ?_
        obtain ⟨k, waits, busy⟩ := after d listed
        refine ⟨k, waits, ?_⟩
        rw [held]
        by_cases same : k = l
        · rw [if_pos same, Line.granted_eq, Line.checkedIn_state]
          exact nofun
        · rw [if_neg same]
          exact busy.resolve_left same
      · intro k listed
        rw [alone, List.mem_singleton] at listed
        rw [listed, own]
    rw [granted] at executed
    refine ⟨_, executed, ?_, by rw [held, if_pos rfl], fun k other => by rw [held, if_neg other], _,
      State.live_grantEntry_noDrive noDrive ((change.same.live _).trans live), ?_⟩
    · have kept {d : Entry} (listed : d ∈ first ++ rest) : decide (¬ (d.agent = e.agent ∧ d.ticket = e.ticket)) = true :=
        decide_eq_true (not_and_or.mpr (apart d listed))
      rw [State.pendingList_grantEntry_noDrive noDrive, list, entries, List.filter_append, List.filter_cons_of_neg (by simp),
        List.filter_eq_self.mpr fun d listed => kept (List.mem_append_left _ listed),
        List.filter_eq_self.mpr fun d listed => kept (List.mem_append_right _ listed)]
    · rw [Table.get_set, if_pos rfl, change.same.lineTime]

/-! ### The readback deadline (R14, R15, R120) -/

theorem exec_readbackDeadline (l : LineId) (s : State) : exec (.readbackDeadline l) s = execReadbackDeadline l s := rfl

section
variable (s : State) (l : LineId)

/-- R14: a line whose readback has failed. -/
def Line.faulted (ln : Line) (now : LineTime) : Line :=
  { ln.commanded .float now with priorDrive := some ln.drive, fault := .readback, readback := .off }

/-- R14, R15: the state once the line is faulted and its holder told. -/
def State.faultTold : State := (s.faultLine l).tellHolder l

theorem State.tellHolder_same : s.SameButNotices (s.tellHolder l) := by
  unfold State.tellHolder
  cases (s.line l).holder with
  | agent n => exact s.modifyNotices_same n _
  | profile => exact .refl s
  | none => exact .refl s

theorem State.LineChange.faultLine : s.LineChange (s.faultLine l) l := .settled s l _

theorem State.line_faultTold : (s.faultTold l).line l = (s.line l).faulted s.lineTime := by
  rw [State.faultTold, (State.tellHolder_same _ l).line, State.line_faultLine, Line.faulted]

theorem State.line_faultTold_other {m : LineId} (other : m ≠ l) : (s.faultTold l).line m = s.line m := by
  rw [State.faultTold, (State.tellHolder_same _ l).line, (State.LineChange.faultLine s l).others m other]

theorem State.frame_faultTold : s.faultTold l = { s with
    lines := (s.faultTold l).lines, interlocks := (s.faultTold l).interlocks,
    sessions := (s.faultTold l).sessions, attention := (s.faultTold l).attention } :=
  State.frame_of_lines_notices (State.LineChange.faultLine s l).same (State.tellHolder_same _ l)

variable {s l} {n : Port}

theorem State.holder_faultLine : ((s.faultLine l).line l).holder = (s.line l).holder := by
  rw [State.line_faultLine]
  rfl

/-- R15, R136: the holder has LINE_FAULTED pending, with the first line time. -/
theorem State.live_faultTold {v : Live} (holder : (s.line l).holder = .agent n) (live : s.live n = some v) :
    ∃ w ∈ (s.faultTold l).live n,
      (w.lineNotices.get l).faulted = some (((v.lineNotices.get l).faulted).getD s.lineTime) := by
  have same := (State.LineChange.faultLine s l).same
  have told : s.faultTold l = (s.faultLine l).postFaulted n l := by
    rw [State.faultTold, State.tellHolder, State.holder_faultLine, holder]
  have alive : (s.faultTold l).live n = some (v.noticed l fun x => { x with faulted := x.faulted <|> some s.lineTime }) := by
    rw [told, State.postFaulted, State.live_postLine, if_pos rfl, same.live, live, same.lineTime, Option.map_some]
  refine ⟨_, alive, ?_⟩
  rw [Live.lineNotices_noticed]
  exact orElse_some_eq _ _

theorem State.live_faultTold_other (other : (s.line l).holder ≠ .agent n) : (s.faultTold l).live n = s.live n := by
  have same := (State.LineChange.faultLine s l).same
  rw [State.faultTold, State.tellHolder, State.holder_faultLine, ← same.live n]
  cases holder : (s.line l).holder with
  | agent m =>
    dsimp only
    rw [State.postFaulted, State.live_postLine, if_neg]
    rintro rfl
    exact other holder
  | profile => rfl
  | none => rfl

theorem State.fireReadback_eq : s.fireReadback l = (s.faultTold l).tellSequencer l := rfl

theorem State.binding_faultTold : ((s.faultTold l).line l).binding = (s.line l).binding := by
  rw [State.line_faultTold]
  rfl

theorem State.fireReadback_unbound (unbound : (s.line l).binding = none) : s.fireReadback l = s.faultTold l := by
  rw [State.fireReadback_eq, State.tellSequencer, State.binding_faultTold, unbound]

theorem State.fireReadback_bound {k : SlotId} (bound : (s.line l).binding = some k) :
    s.fireReadback l = (s.faultTold l).faultOnBound k l := by
  rw [State.fireReadback_eq, State.tellSequencer, State.binding_faultTold, bound]

theorem exec_readbackDeadline_of_due (counting : (s.line l).readback = .counting s.lineTime) :
    exec (.readbackDeadline l) s = .next (s.fireReadback l) := by
  rw [exec_readbackDeadline, execReadbackDeadline, State.readbackDue, if_pos (decide_eq_true counting)]

end

section
variable {s : State} {k : SlotId} {r : Run} (l : LineId)

/-! R120: a readback fault on a bound line, by what the run of its slot does. -/

theorem State.faultOnBound_stepping (run : s.run k = some r) (phase : r.phase = .stepping) :
    s.faultOnBound k l = s.setRun k (some { r with phase := .halting (.fault l) }) := by
  simp only [State.faultOnBound, run, phase]
  exact State.setPhase_of_run _ run

theorem State.faultOnBound_halting {c : HaltCause} (run : s.run k = some r) (phase : r.phase = .halting c) :
    s.faultOnBound k l = s := by
  simp only [State.faultOnBound, run, phase]

theorem State.faultOnBound_holding {d : LineTime} (run : s.run k = some r) (phase : r.phase = .holding d) :
    s.faultOnBound k l = s.haltRun k (.fault l) := by
  simp only [State.faultOnBound, run, phase]

end

/-- Settles O32: `faultTold`, and, on a bound line, `faultOnBound` after it. -/
theorem readbackDeadlineFaultsTheLine : Obligations.ReadbackDeadlineFaultsTheLine := by
  unfold Obligations.ReadbackDeadlineFaultsTheLine
  refine ⟨fun l s counting unbound => ?_, fun l k r s counting bound run => ?_⟩
  all_goals have executed := exec_readbackDeadline_of_due counting
  · rw [State.fireReadback_unbound unbound] at executed
    exact ⟨_, executed, s.frame_faultTold l, s.line_faultTold l, fun k other => s.line_faultTold_other l other,
      fun n v holder live => State.live_faultTold holder live, fun n other => State.live_faultTold_other other⟩
  · rw [State.fireReadback_bound bound] at executed
    have frame := s.frame_faultTold l
    have slots : (s.faultTold l).slots = s.slots := by rw [frame]
    have time : (s.faultTold l).lineTime = s.lineTime := by rw [frame]
    have running : (s.faultTold l).run k = some r := by rw [State.run, slots, ← State.run, run]
    refine ⟨s.faultTold l, _, executed, s.line_faultTold l, fun j other => s.line_faultTold_other l other, slots,
      fun n v holder live => ?_, State.faultOnBound_stepping l running, fun c => State.faultOnBound_halting l running,
      fun d phase => ?_⟩
    · obtain ⟨w, alive, posted⟩ := State.live_faultTold holder live
      exact ⟨w, alive, by rw [posted]; rfl⟩
    · rw [State.faultOnBound_holding l running phase, ← time]
      exact State.runEnded_haltRun _ running

/-! ### The term deadline (R35, R36) -/

theorem exec_termDeadline (l : LineId) (s : State) : exec (.termDeadline l) s = execTermDeadline l s := rfl

theorem exec_termDeadline_of_due {s : State} {l : LineId} (term : (s.line l).term = some s.lineTime)
    (notDue : (s.line l).termDue = false) (state : (s.line l).state = .held ∨ (s.line l).state = .moving) :
    exec (.termDeadline l) s = .next (s.reachTerm l) := by
  rw [exec_termDeadline, execTermDeadline, State.termIsDue, if_pos (decide_eq_true ⟨term, notDue, state⟩)]

/-- Settles O33: a HELD line expires; a MOVING one is marked. -/
theorem termDeadlineEndsTheHolding : Obligations.TermDeadlineEndsTheHolding := by
  unfold Obligations.TermDeadlineEndsTheHolding
  intro l s term notDue
  refine ⟨fun moving => ?_, fun n v state holder live => ?_⟩
  · rw [exec_termDeadline_of_due term notDue (.inr moving), State.reachTerm, moving]
    rfl
  · have executed := exec_termDeadline_of_due term notDue (.inl state)
    have held : s.reachTerm l = s.expire l := by rw [State.reachTerm, state]
    rw [held] at executed
    refine ⟨_, s.releaseTarget l, executed, ?_, State.line_expire holder, fun k other => State.line_expire_other holder other,
      State.releaseTarget_present, State.releaseTarget_fallback, State.live_expire holder live⟩
    rw [State.expire_of_agent holder]
    exact State.frame_of_lines_notices (State.beginRelease_same s l _ _) (State.modifyNotices_same _ n _)

end Sys2Proof.Machine

/-! PROOFS: the Sequencer. What beginning the steps of a run gives (`StepsBegun`), then RUN (O37), the hold deadline (O39)
and the end of a step's move (O40). -/

namespace Sys2Proof.Machine

/-! ### The steps of a run begin (R116, R118, R119) -/

section
variable {s : State} {k : SlotId} {r : Run}

/-- A slot written with the run that it holds stays as it is. -/
theorem State.setRun_self (run : s.run k = some r) : s.setRun k (some r) = s := by
  have slots : s.slots.set k (some r) = s.slots := by
    refine Table.ext fun j => ?_
    rw [Table.get_set]
    split_ifs with same
    · rw [same, ← run, State.run]
    · rfl
  rw [State.setRun, slots]

theorem State.setRun_setRun (s : State) (k : SlotId) (x y : Option Run) : (s.setRun k x).setRun k y = s.setRun k y := by
  simp only [State.setRun, Table.set_set]

theorem State.modifyRun_of_run {f : Run → Run} (run : s.run k = some r) : s.modifyRun k f = s.setRun k (some (f r)) := by
  rw [State.modifyRun, run, Option.map_some]

theorem State.run_setRun_self (s : State) (k : SlotId) (x : Option Run) : (s.setRun k x).run k = x := by
  rw [State.run_setRun, if_pos rfl]

theorem State.finishRun_setRun {x : Run} (run : s.run k = some r) (agent : x.agent = r.agent)
    (sequence : x.sequence = r.sequence) : (s.setRun k (some x)).finishRun k = s.finishRun k := by
  have dropped : (s.setRun k (some x)).dropRun k = s.dropRun k := (s.unbind k).setRun_setRun k (some x) none
  rw [State.finishRun, State.run_setRun_self, State.finishRun, run]
  dsimp only
  rw [dropped, agent, sequence, State.setRun_lineTime]

/-- Steps that begin write their own number into the run, so the number that stood there makes no difference. -/
theorem State.beginSteps_setStep (run : s.run k = some r) (steps : List SeqStep) (n : Nat) :
    State.beginSteps k steps n (s.setRun k (some { r with step := n })) = State.beginSteps k steps n s := by
  cases steps with
  | nil => exact State.finishRun_setRun run rfl rfl
  | cons st rest =>
    rw [State.beginSteps, State.beginSteps, State.modifyRun_of_run run,
      State.modifyRun_of_run (State.run_setRun_self s k _), State.setRun_setRun]

theorem State.runEnded_finishRun (run : s.run k = some r) : RunEnded s (s.finishRun k) k r (.finished k s.lineTime) := by
  rw [State.finishRun, run]
  exact State.runEnded_postOutcome s k r _

section
variable {st : SeqStep} {rest : List SeqStep}

/-- One step, by what its drive and its hold ask. -/
theorem State.beginSteps_refused {slot : RuleSlot} (run : s.run k = some r)
    (refused : s.admission st.line st.drive = some slot) :
    State.beginSteps k (st :: rest) r.step s = s.haltRun k (.interlock slot st.line) := by
  rw [State.beginSteps, State.modifyRun_of_run run, State.setRun_self run, refused]

theorem State.beginSteps_moves (run : s.run k = some r) (admitted : s.admission st.line st.drive = none)
    (moves : (s.line st.line).drive ≠ st.drive) :
    State.beginSteps k (st :: rest) r.step s = (s.driveTo st.line st.drive).setPhase k .stepping := by
  rw [State.beginSteps, State.modifyRun_of_run run, State.setRun_self run, admitted]
  exact if_neg moves

theorem State.beginSteps_holds (run : s.run k = some r) (admitted : s.admission st.line st.drive = none)
    (stays : (s.line st.line).drive = st.drive) (holds : 0 < st.hold) :
    State.beginSteps k (st :: rest) r.step s = s.setPhase k (.holding (s.afterMs st.hold)) := by
  rw [State.beginSteps, State.modifyRun_of_run run, State.setRun_self run, admitted]
  exact (if_pos stays).trans (if_neg holds.ne')

theorem State.beginSteps_passes (run : s.run k = some r) (admitted : s.admission st.line st.drive = none)
    (stays : (s.line st.line).drive = st.drive) (noHold : st.hold = 0) :
    State.beginSteps k (st :: rest) r.step s = State.beginSteps k rest (r.step + 1) s := by
  rw [State.beginSteps, State.modifyRun_of_run run, State.setRun_self run, admitted]
  exact (if_pos stays).trans (if_pos noHold)

end

/-- R116, R118, R119: what `beginSteps` leads to, where the run gives the number of the first step. -/
theorem State.stepsBegun_beginSteps : ∀ (steps : List SeqStep) (r : Run) (s : State), s.run k = some r →
    StepsBegun k (State.beginSteps k steps r.step s) steps r s
  | [], _, _, run => State.runEnded_finishRun run
  | st :: rest, r, s, run => by
    rw [StepsBegun]
    refine ⟨fun slot refused => ?_, fun admitted => ⟨fun moves => ?_, fun stays holds => ?_, fun stays noHold => ?_⟩⟩
    · rw [State.beginSteps_refused run refused]
      exact State.runEnded_haltRun _ run
    · have same := State.driveTo_same s st.line st.drive
      have running : (s.driveTo st.line st.drive).run k = some r := by rw [State.run, same.slots, ← State.run, run]
      rw [State.beginSteps_moves run admitted moves, State.setPhase_of_run _ running]
      refine ⟨?_, s.line_driveTo st.line st.drive, fun l other => State.line_driveTo_other s st.drive other,
        fun noMove => State.interlocks_driveTo_of_noMove s st.line noMove⟩
      unfold State.SameButLines at same
      rw [same]
      rfl
    · rw [State.beginSteps_holds run admitted stays holds, State.setPhase_of_run _ run]
      rfl
    · rw [State.beginSteps_passes run admitted stays noHold, ← State.beginSteps_setStep run]
      exact stepsBegun_beginSteps rest { r with step := r.step + 1 } _ (State.run_setRun_self s k _)

/-- R118: what the end of a hold leads to. -/
theorem State.stepsBegun_endHold (run : s.run k = some r) :
    StepsBegun k (s.endHold k) ((s.steps r.sequence).drop r.step) { r with step := r.step + 1 }
      (s.setRun k (some { r with step := r.step + 1 })) := by
  rw [State.endHold, run]
  dsimp only
  rw [← State.beginSteps_setStep run]
  exact State.stepsBegun_beginSteps _ { r with step := r.step + 1 } _ (State.run_setRun_self s k _)

end

/-! ### RUN (R113 to R115) -/

theorem exec_runSequence (h : Header) (number : Byte) (s : State) :
    exec (.runSequence h number) s = execRun h number s := rfl

/-- R114, test 4, its third part. -/
def hasTermTest : ReqOutcome × (Line → Bool) := (.hasTerm, fun ln => decide (ln.term = none))

theorem runTests_eq (n : Port) :
    runTests n = [notHolderTest n, lineMovingTest, lineFaultedTest, hasTermTest, inSequenceTest] := rfl

theorem asks_hasTermTest : Asks hasTermTest.2 (fun ln => ln.term = none) := fun _ => decide_eq_true_iff

section
variable {s : State} {n : Port} {q : SeqNumber} {k : SlotId}

/-- R115: the slot taken and the lines bound are all that changes before the first step. -/
theorem State.bound_eq (s : State) (n : Port) (q : SeqNumber) (k : SlotId) : s.bound n q k = { s with
    slots := s.slots.set k (some { sequence := q, agent := n, step := 1, phase := .stepping })
    lines := Vector.ofFn fun l => if l ∈ s.lineSet q then { s.line l with binding := some k } else s.line l } := by
  have same := State.bind_same (s.setRun k (some { sequence := q, agent := n, step := 1, phase := .stepping })) k
    (s.lineSet q)
  have table : (s.bound n q k).interlocks = s.interlocks := State.interlocks_bind _ k _
  have lines : (s.bound n q k).lines =
      Vector.ofFn fun l => if l ∈ s.lineSet q then { s.line l with binding := some k } else s.line l := by
    refine Table.ext fun l => ?_
    rw [Table.get_ofFn]
    exact s.line_bound n q k l
  unfold State.SameButLines at same
  rw [← State.bound] at same
  rw [same, table, lines]
  rfl

theorem State.idleSlot_eq_some (idle : s.run k = none) (lowest : ∀ j, j < k → s.run j ≠ none) : s.idleSlot = some k :=
  Table.lowest_eq_some_iff.mpr ⟨decide_eq_true idle, fun j before => by
    rw [decide_eq_true_iff]
    exact lowest j before⟩

theorem State.idleSlot_eq_none (busy : ∀ k, s.run k ≠ none) : s.idleSlot = none :=
  Table.lowest_eq_none_iff.mpr fun k => by
    rw [decide_eq_true_iff]
    exact busy k

theorem State.idleSlot_isSome (free : ∃ k, s.run k = none) : ∃ k, s.idleSlot = some k := by
  obtain ⟨k, idle⟩ := free
  refine Option.ne_none_iff_exists'.mp fun none => ?_
  exact Table.lowest_eq_none_iff.mp none k (decide_eq_true idle)

theorem decideRun_notFound (empty : s.sequence q = none) : decideRun n q s = .done s (Reply.bare .notFound) := by
  rw [decideRun, empty]

theorem decideRun_busy (stored : s.sequence q ≠ none) (busy : ∀ k, s.run k ≠ none) :
    decideRun n q s = .done s (Reply.bare .seqBusy) := by
  obtain ⟨x, known⟩ := Option.ne_none_iff_exists'.mp stored
  simp only [decideRun, known, State.idleSlot_eq_none busy]

theorem decideRun_refused {reply : Reply} (stored : s.sequence q ≠ none) (free : ∃ k, s.run k = none)
    (refused : s.firstRefusal (s.lineSet q) (runTests n) = some reply) : decideRun n q s = .done s reply := by
  obtain ⟨x, known⟩ := Option.ne_none_iff_exists'.mp stored
  obtain ⟨k, slot⟩ := State.idleSlot_isSome free
  simp only [decideRun, known, slot, refused]

theorem State.firstRefusal_runTests (passes : ∀ l ∈ s.lineSet q, (s.line l).holder = .agent n ∧
    (s.line l).state ≠ .moving ∧ (s.line l).fault = .none ∧ (s.line l).term = none ∧ (s.line l).binding = none) :
    s.firstRefusal (s.lineSet q) (runTests n) = none := by
  rw [runTests_eq, State.firstRefusal_pass (asks_notHolderTest n), State.firstRefusal_pass asks_lineMovingTest,
    State.firstRefusal_pass asks_lineFaultedTest, State.firstRefusal_pass asks_hasTermTest,
    State.firstRefusal_pass asks_inSequenceTest, State.firstRefusal]
  all_goals
    intro l listed
    obtain ⟨mine, still, sound, termless, unbound⟩ := passes l listed
    assumption

theorem decideRun_passes {x : Sequence} (stored : s.sequence q = some x) (idle : s.run k = none)
    (lowest : ∀ j, j < k → s.run j ≠ none) (passes : ∀ l ∈ s.lineSet q, (s.line l).holder = .agent n ∧
      (s.line l).state ≠ .moving ∧ (s.line l).fault = .none ∧ (s.line l).term = none ∧ (s.line l).binding = none) :
    decideRun n q s = .done (s.startRun n q k) (Reply.of .ok (.sequencerSlot k)) := by
  simp only [decideRun, stored, State.idleSlot_eq_some idle lowest, State.firstRefusal_runTests passes]

end

theorem exec_runSequence_heard {h : Header} {number : Byte} {q : SeqNumber} {s t : State} {r : Reply}
    (hears : s.Hears h .readyOnly .none) (inRange : number.toNat = q.val)
    (decided : decideRun h.port q (s.heard h 1) = .done t r) :
    exec (.runSequence h number) s = .next (t.answered s h r) := by
  rw [exec_runSequence, execRun, numberBelow_of_eq inRange, State.serve_heard hears decided]

/-- Settles O37: the run starts from `bound`; the refusals are those of the record tests in order. -/
theorem runBindsTheLinesAndBegins : Obligations.RunBindsTheLinesAndBegins := by
  unfold Obligations.RunBindsTheLinesAndBegins
  refine ⟨fun h number q k x s hears inRange stored idle lowest passes => ?_,
    fun h number q l s hears inRange => ?_⟩
  · intro r bound
    have decided := decideRun_passes (s := s.heard h 1) (n := h.port) stored idle lowest passes
    have steps : (s.heard h 1).steps q = x.steps := by
      have heard : (s.heard h 1).sequence q = s.sequence q := rfl
      rw [State.steps, heard, stored]
      rfl
    have taken : (s.heard h 1).bound h.port q k = bound := State.bound_eq _ _ _ _
    rw [State.startRun_eq, steps, taken] at decided
    refine ⟨_, exec_runSequence_heard hears inRange decided, ?_⟩
    exact State.stepsBegun_beginSteps x.steps r bound (by rw [← taken, State.run_bound, if_pos rfl])
  · intro refused lowest all held
    have refuse {reply : Reply} (decided : decideRun h.port q (s.heard h 1) = .done (s.heard h 1) reply) : refused reply :=
      exec_runSequence_heard hears inRange decided
    refine ⟨fun empty => refuse (decideRun_notFound empty), fun stored busy => refuse (decideRun_busy stored busy),
      fun stored free => ?_⟩
    have test {o : ReqOutcome} (tested : s.firstRefusal (s.lineSet q) (runTests h.port) = some (Reply.of o (.line l))) :
        refused (Reply.of o (.line l)) :=
      refuse (decideRun_refused stored free ((s.firstRefusal_heard h 1 (s.lineSet q) _).trans tested))
    refine ⟨fun fails => test ?_, fun mine fails => test ?_, fun mine still fails => test ?_,
      fun mine still sound fails => test ?_, fun mine still sound termless fails => test ?_⟩
    · exact State.firstRefusal_lowest (asks_notHolderTest _) fails _
    · rw [runTests_eq, State.firstRefusal_pass (asks_notHolderTest _) mine]
      exact State.firstRefusal_lowest asks_lineMovingTest fails _
    · rw [runTests_eq, State.firstRefusal_pass (asks_notHolderTest _) mine, State.firstRefusal_pass asks_lineMovingTest still]
      exact State.firstRefusal_lowest asks_lineFaultedTest fails _
    · rw [runTests_eq, State.firstRefusal_pass (asks_notHolderTest _) mine, State.firstRefusal_pass asks_lineMovingTest still,
        State.firstRefusal_pass asks_lineFaultedTest sound]
      exact State.firstRefusal_lowest asks_hasTermTest fails _
    · rw [runTests_eq, State.firstRefusal_pass (asks_notHolderTest _) mine, State.firstRefusal_pass asks_lineMovingTest still,
        State.firstRefusal_pass asks_lineFaultedTest sound, State.firstRefusal_pass asks_hasTermTest termless]
      exact State.firstRefusal_lowest asks_inSequenceTest fails _

/-! ### The hold deadline and the end of a step's move (R116 to R118, R122) -/

theorem exec_holdDeadline (k : SlotId) (s : State) : exec (.holdDeadline k) s = execHoldDeadline k s := rfl

theorem exec_holdDeadline_of_due {s : State} {k : SlotId} {r : Run} (run : s.run k = some r)
    (phase : r.phase = .holding s.lineTime) : exec (.holdDeadline k) s = .next (s.endHold k) := by
  have due : s.holdDue k = true := by
    rw [State.holdDue, run]
    exact decide_eq_true phase
  rw [exec_holdDeadline, execHoldDeadline, if_pos due]

/-- Settles O39: the end of the hold is `endHold`. -/
theorem holdDeadlineBeginsTheNextStep : Obligations.HoldDeadlineBeginsTheNextStep := by
  unfold Obligations.HoldDeadlineBeginsTheNextStep
  intro k r s run phase
  have executed := exec_holdDeadline_of_due run phase
  refine ⟨⟨_, executed, State.stepsBegun_endHold run⟩, fun noStep => ⟨_, executed, ?_⟩⟩
  have ended : s.endHold k = s.finishRun k := by
    rw [State.endHold, run]
    dsimp only
    rw [noStep, State.beginSteps]
  rw [ended]
  exact State.runEnded_finishRun run

section
variable {s : State} {k : SlotId} {r : Run} {st : SeqStep}

theorem State.stepMoveEnded_holds (run : s.run k = some r) (phase : r.phase = .stepping)
    (known : (s.steps r.sequence)[r.step - 1]? = some st) (holds : 0 < st.hold) :
    s.stepMoveEnded k =
      s.setRun k (some { r with phase := .holding (s.lineTime + BitVec.ofNat 32 (st.hold * 1000)) }) := by
  simp only [State.stepMoveEnded, run, phase, State.beginHold, known, Option.map_some, Option.getD_some, holds.ne', if_false]
  exact State.setPhase_of_run _ run

theorem State.stepMoveEnded_passes (run : s.run k = some r) (phase : r.phase = .stepping)
    (known : (s.steps r.sequence)[r.step - 1]? = some st) (noHold : st.hold = 0) : s.stepMoveEnded k = s.endHold k := by
  simp only [State.stepMoveEnded, run, phase, State.beginHold, known, Option.map_some, Option.getD_some, noHold, if_true]

theorem State.stepMoveEnded_halting {c : HaltCause} (run : s.run k = some r) (phase : r.phase = .halting c) :
    s.stepMoveEnded k = s.haltRun k c.reason := by
  simp only [State.stepMoveEnded, run, phase]

end

/-- Settles O40: the line is HELD (`becomeHeld`), and then `stepMoveEnded` by the phase of the run. -/
theorem stepMoveEndHoldsOrHalts : Obligations.StepMoveEndHoldsOrHalts := by
  unfold Obligations.StepMoveEndHoldsOrHalts
  intro l m k r s move reached last moving notDue bound run ended
  have line := s.line_moveRemoved l
  have executed := exec_stageEnd_of_due move reached
  rw [State.endStage_last last, State.completeMove_bound (by rw [line]; exact moving) (by rw [line]; exact notDue)
    (by rw [line]; exact bound)] at executed
  have change : s.LineChange ((s.moveRemoved l).becomeHeld l) l := (State.LineChange.moveRemoved s l).trans (.becomeHeld _ l)
  have settled : s.SettledTo ((s.moveRemoved l).becomeHeld l) := (s.settledTo_moveRemoved l).becomeHeld l
  have own : ((s.moveRemoved l).becomeHeld l).line l = ended := by
    rw [State.line_becomeHeld, line, State.lineTime_moveRemoved]
  generalize (s.moveRemoved l).becomeHeld l = u at executed change settled own
  have running : u.run k = some r := (change.same.run k).trans run
  have steps : u.steps r.sequence = s.steps r.sequence := by rw [State.steps, State.sequence, change.same.store]; rfl
  refine ⟨u, _, executed, change.same.onlyLines, settled, own, change.others, fun st phase known holds => ?_,
    fun st phase known noHold => ?_, fun c phase => ?_⟩
  · rw [State.stepMoveEnded_holds running phase (by rw [steps]; exact known) holds, change.same.lineTime]
  · rw [State.stepMoveEnded_passes running phase (by rw [steps]; exact known) noHold, ← steps]
    exact State.stepsBegun_endHold running
  · rw [State.stepMoveEnded_halting running phase, ← change.same.lineTime]
    exact State.runEnded_haltRun _ running

end Sys2Proof.Machine

/-! PROOFS: the flash requests. Their acceptance (O46), what a byte of the flash reads after an erase, a program and what a
device leaves, and their ends (O47 to O50). -/

namespace Sys2Proof.Machine

/-! ### Acceptance (R160) -/

/-- A request that is heard and accepted is in process, with its sequence number and the discarded marker (R172). -/
theorem State.serve_accepted {α : Type} {s t : State} {h : Header} {length : Nat} {service : Service} {right : Right}
    {a : α} {body : α → State → Verdict} (hears : s.Hears h service right)
    (decided : body a (s.heard h length) = .accepted t) :
    s.serve h length (checked h service .required right (some a) body) = t.setPort h.port { t.port h.port with
      request := some { seq := h.seq, discarded := (s.port h.port).response.isSome, ignored := false } } := by
  obtain ⟨⟨high, idle, free⟩, served, isOpen, tag, hasRight⟩ := hears
  have accepts : s.accepts h.port = true := by simp [State.accepts, high, idle]
  have notInProcess : s.inProcess h.port = false := by simp [State.inProcess, free]
  have passes := checked_passes (s := s.taken h length) a body served isOpen tag hasRight
  rw [State.serve_taken length _ accepts notInProcess]
  rw [State.taken] at passes
  rw [passes]
  change (body a (s.heard h length)).settle h _ = _
  rw [decided]
  rfl

section
variable {s : State} {h : Header} {n : Port} {work : FlashWork}

theorem decideFlash_busy {op : FlashOp} (busy : s.loader.flashOp = some op) :
    decideFlash n work s = .done s (Reply.bare .flashBusy) := by
  rw [decideFlash, busy]

theorem decideFlash_idle (idle : s.loader.flashOp = none) : decideFlash n work s = .accepted { s with
    loader := { s.loader with flashOp := some { work := work, port := n, began := s.lineTime } } } := by
  rw [decideFlash, idle]
  rfl

theorem State.serveFlash_busy (hears : s.Hears h .exceptStarting .configure) (length : Nat)
    (busy : s.loader.flashOp ≠ none) :
    s.serveFlash h length (some work) = (s.heard h length).answered s h (Reply.bare .flashBusy) := by
  obtain ⟨op, busy⟩ := Option.ne_none_iff_exists'.mp busy
  exact State.serve_heard hears (decideFlash_busy busy)

theorem State.serveFlash_idle (hears : s.Hears h .exceptStarting .configure) (length : Nat)
    (idle : s.loader.flashOp = none) :
    s.serveFlash h length (some work) = ({ s.heard h length with
        loader := { s.loader with flashOp := some { work := work, port := h.port, began := s.lineTime } } } : State).setPort
      h.port { (s.heard h length).port h.port with
        request := some { seq := h.seq, discarded := (s.port h.port).response.isSome, ignored := false } } :=
  State.serve_accepted hears (decideFlash_idle idle)

end

theorem exec_profileErase (h : Header) (s : State) :
    exec (.profileErase h) s = .next (s.serveFlash h 0 (some .erase)) := rfl

theorem exec_profileCommit (h : Header) (s : State) :
    exec (.profileCommit h) s = .next (s.serveFlash h 0 (some .commit)) := rfl

theorem exec_profileRead (h : Header) (slot : Byte) (offset : BitVec 16) (length : Byte) (s : State) :
    exec (.profileRead h slot offset length) s = .next (s.serveFlash h 4 (readArgs slot offset length)) := rfl

theorem exec_profileWrite (h : Header) (offset : BitVec 16) (data : List Byte) (s : State) :
    exec (.profileWrite h offset data) s = .next (s.serveFlash h (2 + data.length) (writeArgs offset data)) := rfl

/-- Settles O46: the four flash requests are `serveFlash` with their work. -/
theorem flashRequestIsAcceptedOrBusy : Obligations.FlashRequestIsAcceptedOrBusy := by
  unfold Obligations.FlashRequestIsAcceptedOrBusy
  intro h s hears accepted
  have served {i : Instr} {length : Nat} {work : FlashWork}
      (executes : exec i s = .next (s.serveFlash h length (some work))) : accepted i length work := by
    refine ⟨fun busy => ?_, fun idle => ?_⟩
    · rw [executes, State.serveFlash_busy hears length busy]
    · rw [executes, State.serveFlash_idle hears length idle]
  refine ⟨served (exec_profileErase h s), served (exec_profileCommit h s), fun slot offset length work args => served ?_,
    fun offset data work args => served ?_⟩
  · rw [exec_profileRead, args]
  · rw [exec_profileWrite, args]

/-! ### What a byte reads (R147) -/

section
variable {m : List Host.Cell}

theorem Memory.read_cons (a : Nat) (v : Byte) (m : List Host.Cell) (y : Nat) :
    Memory.read ((a, v) :: m) y = if a = y then v else Memory.read m y := rfl

/-- A write at one address leaves what the others read, in any form of the memory. -/
theorem Memory.read_write_other {x y : Nat} (other : y ≠ x) (v : Byte) :
    ∀ m : List Host.Cell, Memory.read (Memory.write m x v) y = Memory.read m y
  | [] => by
    rw [Memory.write]
    split_ifs
    · rfl
    · rw [Memory.read_cons, if_neg other.symm]
  | (a, w) :: m => by
    rw [Memory.write]
    split_ifs with below erased same erased
    · rfl
    · rw [Memory.read_cons, if_neg other.symm]
    · rw [Memory.read_cons, if_neg (same ▸ other.symm)]
    · rw [Memory.read_cons, Memory.read_cons, if_neg other.symm, if_neg (same ▸ other.symm)]
    · rw [Memory.read_cons, Memory.read_cons, Memory.read_write_other other v m]

/-- A memory with the bytes of some addresses dropped: those read as erased. -/
theorem Memory.read_filter (p : Nat → Bool) (y : Nat) : ∀ m : List Host.Cell,
    Memory.read (m.filter fun c => p c.1) y = if p y then Memory.read m y else erasedByte
  | [] => by rw [List.filter_nil, Memory.read, ite_self]
  | (a, w) :: m => by
    rw [List.filter_cons]
    by_cases same : a = y
    · subst same
      by_cases kept : p a = true
      · rw [if_pos kept, if_pos kept, Memory.read_cons, if_pos rfl]
        rw [Memory.read_cons, if_pos rfl]
      · rw [if_neg kept, Memory.read_filter p a m, if_neg kept, if_neg kept]
    · rw [Memory.read_cons, if_neg same, ← Memory.read_filter p y m]
      split_ifs
      · rw [Memory.read_cons, if_neg same]
      · rfl

/-- R161: a sector erase sets the bytes of the slot to FFh and no others. -/
theorem Memory.read_eraseSector (m : List Host.Cell) (slot : FlashSlot) (a : Nat) :
    Memory.read (Memory.eraseSector m slot.base) a =
      if slot.base ≤ a ∧ a < slot.base + slotSize then erasedByte else Memory.read m a := by
  have sector : a / slotSize = slot.base / slotSize ↔ slot.base ≤ a ∧ a < slot.base + slotSize := by
    cases slot <;> simp only [FlashSlot.base, slotSize] <;> omega
  rw [Memory.eraseSector, Memory.read_filter (fun x => decide (x / slotSize ≠ slot.base / slotSize))]
  by_cases inside : slot.base ≤ a ∧ a < slot.base + slotSize
  · rw [if_pos inside, if_neg]
    simpa using sector.mpr inside
  · rw [if_neg inside, if_pos]
    simpa using fun same => inside (sector.mp same)

theorem Memory.read_foldWrites {base a : Nat} : ∀ (cells : FlashCells) (m : List Host.Cell),
    (∀ c ∈ cells, a ≠ base + c.1) →
    Memory.read (cells.foldl (fun m c => Memory.write m (base + c.1) c.2) m) a = Memory.read m a
  | [], _, _ => rfl
  | c :: cells, m, outside => by
    obtain ⟨here, later⟩ := List.forall_mem_cons.mp outside
    rw [List.foldl_cons, Memory.read_foldWrites cells _ later, Memory.read_write_other here]

/-- What a device leaves is among the bytes that the work can change (log 9). -/
theorem Memory.read_leave_outside {slot : FlashSlot} {allowed : Nat → Bool} {a : Nat} (m : List Host.Cell)
    (left : FlashCells) (outside : ∀ o, o < slotSize → allowed o = true → a ≠ slot.base + o) :
    Memory.read (Memory.leave m slot allowed left) a = Memory.read m a := by
  refine Memory.read_foldWrites _ m fun c listed => ?_
  obtain ⟨-, can⟩ := List.mem_filter.mp listed
  obtain ⟨allows, below⟩ := (Bool.and_eq_true _ _).mp can
  exact outside c.1 (of_decide_eq_true below) allows

/-! ### Programs (R147, R162) -/

theorem Memory.program_append (first rest : List Byte) (m : List Host.Cell) (a : Nat) :
    Memory.program m a (first ++ rest) = Memory.program (Memory.program m a first) (a + first.length) rest := by
  induction first generalizing m a with
  | nil => rfl
  | cons v first ih =>
    rw [List.cons_append, Memory.program, ih, Memory.program, List.length_cons, Nat.add_right_comm]
    rfl

/-- R147, R162: the commands of a program, one page or two, program the bytes named. -/
theorem runCommands_programCommands (address : Nat) (data : List Byte) (m : List Host.Cell) :
    runCommands (programCommands address data) m = Memory.program m address data := by
  unfold programCommands
  dsimp only
  split_ifs with onePage
  · rfl
  · have room : (data.take (256 - address % 256)).length = 256 - address % 256 :=
      List.length_take_of_le (Nat.le_of_not_le onePage)
    have whole := Memory.program_append (data.take (256 - address % 256)) (data.drop (256 - address % 256)) m address
    rw [List.take_append_drop, room] at whole
    exact whole.symm

/-- R147: a programmed byte is the bitwise combination of what it held and what was written. -/
theorem Memory.read_program (data : List Byte) (a y : Nat) (wf : Memory.wf m = true) :
    Memory.read (Memory.program m a data) y =
      if h : a ≤ y ∧ y - a < data.length then Memory.read m y &&& data[y - a] else Memory.read m y := by
  induction data generalizing m a with
  | nil => simp [Memory.program]
  | cons v vs ih =>
    rw [Memory.program, ih (a + 1) (Memory.write_wf a _ wf), Memory.read_write wf]
    by_cases same : y = a
    · subst same
      rw [if_pos rfl, dif_neg (by omega), dif_pos ⟨le_rfl, by simp⟩]
      simp
    · rw [if_neg same]
      by_cases inside : a + 1 ≤ y ∧ y - (a + 1) < vs.length
      · have cell : (v :: vs)[y - a]'(by rw [List.length_cons]; omega) = vs[y - (a + 1)] := by
          rw [List.getElem_cons, dif_neg (by omega)]
          congr 1
        rw [dif_pos inside, dif_pos ⟨by omega, by rw [List.length_cons]; omega⟩, cell]
      · rw [dif_neg inside, dif_neg]
        rw [List.length_cons]
        omega

theorem Memory.readRange_eq_iff {first : Nat} {data : List Byte} :
    Memory.readRange m first data.length = data ↔ ∀ i, ∀ h : i < data.length, Memory.read m (first + i) = data[i] := by
  constructor
  · intro same i inside
    conv_rhs => rw [← List.getElem_of_eq same (by simpa [Memory.readRange] using inside)]
    simp [Memory.readRange]
  · intro cells
    refine List.ext_getElem (by simp [Memory.readRange]) fun i _ inside => ?_
    rw [← cells i inside]
    simp [Memory.readRange]

theorem Memory.allErased_iff {slot : FlashSlot} :
    Memory.allErased m slot = true ↔ ∀ o, o < slotSize → Memory.read m (slot.base + o) = erasedByte := by
  simp [Memory.allErased, Memory.readRange]

end

/-! ### The end of flash work (R160, R165) -/

theorem State.flashEnded_endFlash (s : State) (op : FlashOp) (r : Reply) : FlashEnded s (s.endFlash op r) op r := by
  refine ⟨fun q request => ?_, fun request => ?_⟩
  · rw [State.endFlash, State.answerFlash]
    have same : ((s.modifyLoader fun r => { r with flashOp := none }).port op.port).request = some q := request
    rw [same]
    dsimp only
    rw [State.place, State.modifyPort, State.modifyPort, State.port_setPort, if_pos rfl, State.setPort, State.setPort,
      Table.set_set]
    rfl
  · rw [State.endFlash, State.answerFlash]
    have same : ((s.modifyLoader fun r => { r with flashOp := none }).port op.port).request = none := request
    rw [same]
    rfl

/-- R161 to R163: the state in which FLASH_FAILED is answered, the spare DAMAGED. -/
def State.failed (s : State) (x : SpareState) (f : FlashFailure) : State :=
  { s with loader := { s.loader with spareState := x, lastFailure := some (f, s.lineTime) } }

theorem State.flashEnded_damage (s : State) (op : FlashOp) (f : FlashFailure) :
    FlashEnded (s.failed .damaged f) (s.damage op f) op (Reply.of .flashFailed (.flashFailed f)) :=
  State.flashEnded_endFlash _ op _

theorem State.waitedOut_of_reached {s : State} {sent : LineTime} {limit : Nat} {op : FlashOp}
    (inProgress : s.loader.flashOp = some op) (later : (sent - op.began).toNat < 2147483648)
    (reached : s.lineTime = sent + BitVec.ofNat 32 (limit * 1000)) : s.waitedOut sent limit = some op :=
  (s.waitedOut_eq_some_iff sent limit op).mpr ⟨inProgress, decide_eq_true later, reached⟩

theorem State.waitedOut_of_not_reached {s : State} {sent : LineTime} {limit : Nat}
    (notReached : s.lineTime ≠ sent + BitVec.ofNat 32 (limit * 1000)) : s.waitedOut sent limit = none :=
  Option.eq_none_iff_forall_ne_some.mpr fun op waited =>
    notReached ((s.waitedOut_eq_some_iff sent limit op).mp waited).2.2

/-! ### Erase (R161) -/

theorem exec_eraseEnd (left : FlashCells) (s : State) : exec (.eraseEnd left) s = execEraseEnd left s := rfl

theorem exec_eraseTimeout (wait : FlashWait) (s : State) : exec (.eraseTimeout wait) s = execEraseTimeout wait s := rfl

section
variable {s : State} {op : FlashOp} {left : FlashCells} (inProgress : s.loader.flashOp = some op)

include inProgress

theorem exec_eraseEnd_of_erase (work : op.work = .erase) : exec (.eraseEnd left) s = .next (s.endErase op left) := by
  simp only [exec_eraseEnd, execEraseEnd, inProgress, work]

theorem exec_eraseTimeout_of_erase {sent : LineTime} (work : op.work = .erase)
    (later : (sent - op.began).toNat < 2147483648) (reached : s.lineTime = sent + 400000) :
    exec (.eraseTimeout ⟨sent, left⟩) s = .next (s.timeoutErase op left) := by
  have waited : s.waitedOut sent eraseLimit = some op := State.waitedOut_of_reached inProgress later reached
  simp only [exec_eraseTimeout, execEraseTimeout, waited, work]

end

theorem exec_eraseTimeout_of_not_reached {s : State} {sent : LineTime} {left : FlashCells}
    (notReached : s.lineTime ≠ sent + 400000) : exec (.eraseTimeout ⟨sent, left⟩) s = .next s := by
  have waited : s.waitedOut sent eraseLimit = none := State.waitedOut_of_not_reached notReached
  simp only [exec_eraseTimeout, execEraseTimeout, waited]

/-- The state once the erase command has run and the device has left what it leaves. -/
theorem State.endErase_eq (s : State) (op : FlashOp) (work : op.work = .erase) (left : FlashCells) :
    s.endErase op left =
      let t := s.setFlash (Memory.leave (Memory.eraseSector s.flash s.loader.spare.base) s.loader.spare (fun _ => true) left)
      if Memory.allErased t.flash s.loader.spare then (t.setSpare .erased).endFlash op (Reply.bare .ok)
      else t.damage op .eraseVerify := by
  rw [State.endErase, State.leave, work]
  rfl

/-- Settles O47: the erase as `Memory.eraseSector`, what the device leaves as `Memory.leave`, and the ends as
`endFlash` and `damage`. -/
theorem eraseEndsErasedOrDamaged : Obligations.EraseEndsErasedOrDamaged := by
  unfold Obligations.EraseEndsErasedOrDamaged
  intro op sent left s inProgress work base sound m cut ended
  have outside {mem : List Host.Cell} {a : Nat} (away : ¬ (base ≤ a ∧ a < base + 4096)) :
      Memory.read (Memory.leave mem s.loader.spare (fun _ => true) left) a = Memory.read mem a :=
    Memory.read_leave_outside mem left fun o below _ same => away ⟨by omega, by rw [slotSize] at below; omega⟩
  have erased (a : Nat) : Memory.read sound a = if base ≤ a ∧ a < base + 4096 then 0xFF else Memory.read s.flash a :=
    Memory.read_eraseSector s.flash s.loader.spare a
  have ok {cells : FlashCells} (all : ∀ o, o < 4096 →
      Memory.read (Memory.leave sound s.loader.spare (fun _ => true) cells) (base + o) = 0xFF) :
      ended (.eraseEnd cells) (Memory.leave sound s.loader.spare (fun _ => true) cells) .erased s.loader.lastFailure
        (Reply.bare .ok) := by
    have executed := exec_eraseEnd_of_erase (left := cells) inProgress work
    rw [State.endErase_eq s op work] at executed
    refine ⟨_, executed.trans (congrArg _ (if_pos (Memory.allErased_iff.mpr all))), ?_⟩
    exact State.flashEnded_endFlash _ op _
  refine ⟨erased, fun a away => ⟨(outside away).trans ((erased a).trans (if_neg away)), outside away⟩, ok fun o below => ?_,
    ok, fun bad => ?_, fun later reached => ?_, exec_eraseTimeout_of_not_reached⟩
  · exact (erased _).trans (if_pos ⟨Nat.le_add_right _ _, by omega⟩)
  · have executed := exec_eraseEnd_of_erase (left := left) inProgress work
    rw [State.endErase_eq s op work] at executed
    refine ⟨_, executed.trans (congrArg _ (if_neg fun all => ?_)), State.flashEnded_damage (s.setFlash m) op _⟩
    obtain ⟨o, below, differs⟩ := bad
    exact differs (Memory.allErased_iff.mp all o below)
  · refine ⟨_, exec_eraseTimeout_of_erase inProgress work later reached, ?_⟩
    rw [State.timeoutErase, State.leave, work]
    exact State.flashEnded_damage (s.setFlash cut) op _

/-! ### Write (R162) -/

theorem exec_writeEnd (left : FlashCells) (s : State) : exec (.writeEnd left) s = execWriteEnd left s := rfl

theorem exec_programTimeout (wait : FlashWait) (s : State) :
    exec (.programTimeout wait) s = execProgramTimeout wait s := rfl

theorem exec_programTimeout_of_not_reached {s : State} {sent : LineTime} {left : FlashCells}
    (notReached : s.lineTime ≠ sent + 5000) : exec (.programTimeout ⟨sent, left⟩) s = .next s := by
  have waited : s.waitedOut sent programLimit = none := State.waitedOut_of_not_reached notReached
  simp only [exec_programTimeout, execProgramTimeout, waited]

section
variable {s : State} {op : FlashOp} {left : FlashCells} {offset : Nat} {data : List Byte}
  (inProgress : s.loader.flashOp = some op) (work : op.work = .write offset data)

include inProgress work

theorem exec_writeEnd_of_write : exec (.writeEnd left) s = .next (s.endWrite op offset data left) := by
  simp only [exec_writeEnd, execWriteEnd, inProgress, work]

theorem exec_programTimeout_of_write {sent : LineTime} (later : (sent - op.began).toNat < 2147483648)
    (reached : s.lineTime = sent + 5000) :
    exec (.programTimeout ⟨sent, left⟩) s = .next (s.timeoutProgram op left) := by
  have waited : s.waitedOut sent programLimit = some op := State.waitedOut_of_reached inProgress later reached
  simp only [exec_programTimeout, execProgramTimeout, waited, work]

end

theorem State.endWrite_eq (s : State) (op : FlashOp) (offset : Nat) (data : List Byte) (left : FlashCells) :
    s.endWrite op offset data left =
      let t := s.setFlash (Memory.leave (Memory.program s.flash (s.loader.spare.base + offset) data) s.loader.spare
        op.work.touches left)
      if Memory.readRange t.flash (s.loader.spare.base + offset) data.length = data then
        (t.setSpare .writing).endFlash op (Reply.bare .ok)
      else t.damage op .programVerify := by
  rw [State.endWrite, runCommands_programCommands]
  rfl

/-- Settles O48: the write as `Memory.program`, of which `Memory.read_program` says what each byte reads. -/
theorem writeEndsWritingOrDamaged : Obligations.WriteEndsWritingOrDamaged := by
  unfold Obligations.WriteEndsWritingOrDamaged
  intro op offset data sent left s wf inProgress work base touched cut ended
  have touches : op.work.touches = touched := by rw [work]; rfl
  have executed := exec_writeEnd_of_write (left := left) inProgress work
  rw [State.endWrite_eq, touches] at executed
  have outside {mem : List Host.Cell} {a : Nat} (away : ¬ (base ≤ a ∧ a < base + data.length)) :
      Memory.read (Memory.leave mem s.loader.spare touched left) a = Memory.read mem a := by
    refine Memory.read_leave_outside mem left fun o below can same => away ?_
    have can : offset ≤ o ∧ o < offset + data.length := of_decide_eq_true can
    have start : base = s.loader.spare.base + offset := rfl
    omega
  have sound (a : Nat) := Memory.read_program data base a wf
  refine ⟨Memory.program s.flash base data, sound, Memory.program_wf data s.flash base wf, ?_⟩
  intro m
  refine ⟨fun none => ?_, fun a away => ⟨(outside away).trans ((sound a).trans (dif_neg ?_)), outside away⟩, fun good => ?_,
    fun bad => ?_, fun later reached => ?_, exec_programTimeout_of_not_reached⟩
  · subst none
    exact ⟨rfl, rfl⟩
  · rintro ⟨above, below⟩
    exact away ⟨above, by omega⟩
  · refine ⟨_, executed.trans (congrArg _ (if_pos (Memory.readRange_eq_iff.mpr good))), ?_⟩
    exact State.flashEnded_endFlash _ op _
  · refine ⟨_, executed.trans (congrArg _ (if_neg fun same => ?_)), State.flashEnded_damage (s.setFlash m) op _⟩
    obtain ⟨i, inside, differs⟩ := bad
    exact differs (Memory.readRange_eq_iff.mp same i inside)
  · refine ⟨_, exec_programTimeout_of_write inProgress work later reached, ?_⟩
    rw [State.timeoutProgram, State.leave, touches]
    exact State.flashEnded_damage (s.setFlash cut) op _

/-! ### Commit (R163) -/

theorem exec_commitEnd (left : FlashCells) (s : State) : exec (.commitEnd left) s = execCommitEnd left s := rfl

section
variable {s : State} {op : FlashOp} {left : FlashCells}

theorem exec_commitEnd_of_commit (inProgress : s.loader.flashOp = some op) (work : op.work = .commit) :
    exec (.commitEnd left) s = .next (s.endCommit op left) := by
  simp only [exec_commitEnd, execCommitEnd, inProgress, work]

theorem State.endCommit_refused {reason : ImageFault} (check : s.checkCommit = .error reason) :
    s.endCommit op left = s.endFlash op (s.imageRefusal reason) := by
  rw [State.endCommit, check]

theorem State.endCommit_marked {x : Image} (check : s.checkCommit = .ok x) (marked : s.spareMarker = committedMarker) :
    s.endCommit op left = s.committed op := by
  rw [State.endCommit, check]
  exact if_pos marked

theorem State.endCommit_unmarked {x : Image} (check : s.checkCommit = .ok x) (unmarked : s.spareMarker ≠ committedMarker) :
    s.endCommit op left = s.programMarker op left := by
  rw [State.endCommit, check]
  exact if_neg unmarked

theorem State.imageRefusal_generation (required : s.loader.generation ≠ 0xFFFFFFFF) :
    s.imageRefusal .generation = Reply.of .imageInvalid
      (.imageInvalid .generation (some (s.slotGeneration s.loader.spare, s.loader.generation + 1))) := by
  rw [State.imageRefusal, if_pos rfl, State.requiredGeneration, if_neg required]

theorem State.imageRefusal_other {reason : ImageFault} (other : reason ≠ .generation) :
    s.imageRefusal reason = Reply.of .imageInvalid (.imageInvalid reason none) := by
  rw [State.imageRefusal, if_neg other]

theorem State.flashEnded_committed (s : State) (op : FlashOp) :
    FlashEnded { s with loader := { s.loader with spareState := .committed } } (s.committed op) op
      (Reply.of .ok (.generation (s.slotGeneration s.loader.spare))) :=
  State.flashEnded_endFlash _ op _

/-- R163: the state once the marker is programmed and the device has left what it leaves. -/
def State.marked (s : State) (left : FlashCells) : State :=
  s.setFlash (Memory.leave (Memory.program s.flash (s.loader.spare.base + 5) [0x5A]) s.loader.spare
    (fun o => decide (o = 5)) left)

theorem State.programMarker_eq (s : State) (work : op.work = .commit) : s.programMarker op left =
    if (s.marked left).slotByte s.loader.spare 5 = 0x5A then (s.marked left).committed op
    else (s.marked left).damage op .programVerify := by
  rw [State.programMarker, State.leave, work, runCommands_programCommands]
  rfl

theorem exec_programTimeout_of_commit {sent : LineTime} {x : Image} (inProgress : s.loader.flashOp = some op)
    (work : op.work = .commit) (check : s.checkCommit = .ok x) (unmarked : s.spareMarker ≠ committedMarker)
    (later : (sent - op.began).toNat < 2147483648) (reached : s.lineTime = sent + 5000) :
    exec (.programTimeout ⟨sent, left⟩) s = .next (s.timeoutProgram op left) := by
  have waited : s.waitedOut sent programLimit = some op := State.waitedOut_of_reached inProgress later reached
  have programs : s.programsMarker = true := by
    rw [State.programsMarker, check]
    exact decide_eq_true unmarked
  simp only [exec_programTimeout, execProgramTimeout, waited, work, programs, if_true]

end

/-- Settles O49: the cases of `endCommit`, and the time-out of the marker's program. -/
theorem commitChecksAndMarksTheSpare : Obligations.CommitChecksAndMarksTheSpare := by
  unfold Obligations.CommitChecksAndMarksTheSpare
  intro op sent left s inProgress work check found ended committed failed
  have executed := exec_commitEnd_of_commit (left := left) inProgress work
  refine ⟨fun reason refused other => ?_, fun refused required => ?_, fun x passed marked => ?_, fun x passed unmarked => ?_,
    exec_programTimeout_of_not_reached⟩
  · rw [State.endCommit_refused refused, State.imageRefusal_other other] at executed
    exact ⟨_, executed, State.flashEnded_endFlash s op _⟩
  · rw [State.endCommit_refused refused, State.imageRefusal_generation required] at executed
    exact ⟨_, executed, State.flashEnded_endFlash s op _⟩
  · rw [State.endCommit_marked passed marked] at executed
    exact ⟨_, executed, State.flashEnded_committed s op⟩
  · rw [State.endCommit_unmarked passed unmarked, State.programMarker_eq s work] at executed
    intro m u
    refine ⟨fun good => ⟨_, executed.trans (congrArg _ (if_pos good)), State.flashEnded_committed (s.marked left) op⟩,
      fun bad => ⟨_, executed.trans (congrArg _ (if_neg bad)), State.flashEnded_damage (s.marked left) op _⟩,
      fun later reached => ⟨_, exec_programTimeout_of_commit inProgress work passed unmarked later reached, ?_⟩⟩
    rw [State.timeoutProgram, State.leave, work]
    exact State.flashEnded_damage (s.setFlash (Memory.leave s.flash s.loader.spare (fun o => decide (o = 5)) left)) op _

/-! ### Read and a busy flash (R160, R164) -/

theorem exec_readEnd (s : State) : exec .readEnd s = execReadEnd s := rfl

theorem exec_flashStatusBusy (s : State) : exec .flashStatusBusy s = execFlashStatusBusy s := rfl

/-- Settles O50: a read ends with the bytes read; any flash work ends where the flash is busy. -/
theorem readEndsAndBusyFlashFails : Obligations.ReadEndsAndBusyFlashFails := by
  unfold Obligations.ReadEndsAndBusyFlashFails
  intro op s inProgress
  refine ⟨fun slot offset length work => ?_, ?_⟩
  · have executed : exec .readEnd s = .next (s.endFlash op
        (Reply.of .ok (.data (Memory.readRange s.flash (slot.base + offset) length)))) := by
      simp only [exec_readEnd, execReadEnd, inProgress, work]
    exact ⟨_, _, executed, State.flashEnded_endFlash s op _, by simp [Memory.readRange],
      fun i inside => by simp [Memory.readRange]⟩
  · have executed : exec .flashStatusBusy s = .next (s.failFlash op .deviceBusy) := by
      simp only [exec_flashStatusBusy, execFlashStatusBusy, inProgress]
    exact ⟨_, executed, State.flashEnded_endFlash _ op _⟩

end Sys2Proof.Machine

/-! PROOFS: the end of a load with an image (O51). -/

namespace Sys2Proof.Machine

/-! ### What the slots of the table hold, their status apart (R65) -/

/-- The rule and the origin of an interlock slot. -/
def InterlockSlot.content : InterlockSlot → Option (Rule × RuleOrigin)
  | .empty => none
  | .rule r _ origin => some (r, origin)

theorem InterlockSlot.content_settle (slot : InterlockSlot) (sets : LineId → Levels) :
    (slot.settle sets).content = slot.content := by
  cases slot with
  | empty => rfl
  | rule r status origin =>
    cases status with
    | occupied => rfl
    | reserved =>
      rw [InterlockSlot.settle]
      split_ifs <;> rfl

theorem InterlockSlot.content_eq_none_iff {slot : InterlockSlot} : slot.content = none ↔ slot = .empty := by
  cases slot with
  | empty => exact ⟨fun _ => rfl, fun _ => rfl⟩
  | rule r status origin => exact ⟨nofun, nofun⟩

theorem InterlockSlot.content_eq_some_iff {slot : InterlockSlot} {r : Rule} {origin : RuleOrigin} :
    slot.content = some (r, origin) ↔ ∃ status, slot = .rule r status origin := by
  cases slot with
  | empty => exact ⟨nofun, nofun⟩
  | rule r' status origin' =>
    refine ⟨fun same => ?_, fun ⟨status', same⟩ => ?_⟩
    · obtain ⟨rfl, rfl⟩ := Prod.mk.inj (Option.some.inj same)
      exact ⟨status, rfl⟩
    · obtain ⟨rfl, -, rfl⟩ := InterlockSlot.rule.inj same
      rfl

/-- Every slot of `t` holds the rule of `s`, of the same origin, or none as in `s`. -/
def State.KeepsTable (s t : State) : Prop := ∀ k, (t.ruleAt k).content = (s.ruleAt k).content

namespace State.KeepsTable

variable {s t u : State}

theorem refl (s : State) : s.KeepsTable s := fun _ => rfl

theorem trans (first : s.KeepsTable t) (second : t.KeepsTable u) : s.KeepsTable u :=
  fun k => (second k).trans (first k)

theorem of_interlocks (same : t.interlocks = s.interlocks) : s.KeepsTable t := fun k => by
  rw [State.ruleAt, same, State.ruleAt]

theorem settleReserved (s : State) : s.KeepsTable s.settleReserved := fun k => by
  rw [State.ruleAt_settleReserved, InterlockSlot.content_settle]

theorem abandon (s : State) (l : LineId) : s.KeepsTable (s.abandon l) := by
  unfold State.abandon
  cases (s.line l).move with
  | none => exact .refl s
  | some m => exact (of_interlocks rfl).trans (.settleReserved _)

theorem startMove (s : State) (l : LineId) (kind : MoveKind) (d : Drive) : s.KeepsTable (s.startMove l kind d) :=
  (abandon s l).trans (of_interlocks (State.interlocks_startMove s l kind d))

theorem driveTo (s : State) (l : LineId) (d : Drive) : s.KeepsTable (s.driveTo l d) := by
  unfold State.driveTo
  split_ifs
  · exact .refl s
  · exact (startMove s l .ordinary d).trans (of_interlocks rfl)

theorem beginRelease (s : State) (l : LineId) (reason : FreeReason) (d : Drive) :
    s.KeepsTable (s.beginRelease l reason d) := (of_interlocks rfl).trans (.startMove _ l .release d)

theorem floatLine (s : State) (l : LineId) : s.KeepsTable (State.floatLine l s) :=
  (of_interlocks rfl).trans (.startMove _ l .release .float)

theorem enterChecked (s : State) (l : LineId) : s.KeepsTable (s.enterChecked l) :=
  of_interlocks (State.interlocks_enterChecked s l)

theorem pinLine (s : State) (l : LineId) : s.KeepsTable (State.pinLine l s) :=
  (of_interlocks (t := s.modifyLine l _) rfl).trans ((enterChecked _ l).trans (driveTo _ l _))

theorem forLines {op : LineId → State → State} (keeps : ∀ l (u : State), u.KeepsTable (op l u)) :
    ∀ (ls : List LineId) (s : State), s.KeepsTable (State.forLines op ls s)
  | [], s => .refl s
  | l :: ls, s => (keeps l s).trans (forLines keeps ls (op l s))

theorem startUp (s : State) : s.KeepsTable s.startUp := by
  rw [State.startUp_eq]
  refine forLines (fun l u => ?_) _ s
  unfold State.startUpLine
  split_ifs
  · exact .pinLine u l
  · exact .beginRelease u l _ _

theorem floatAll (s : State) : s.KeepsTable s.floatAll := by
  rw [State.floatAll_eq]
  refine forLines (fun l u => ?_) _ s
  unfold State.floatDriven
  split_ifs
  · exact .refl u
  · exact .floatLine u l

end State.KeepsTable

/-! ### The image selected (R152) -/

section
variable {s : State} {slot : FlashSlot} {x : Image}

/-- R152, step 3: the valid slot of the higher generation is selected, slot A where they are equal. -/
theorem State.selectSlot_of_valid (valid : checkImage .load (s.slotByte slot) = .ok x)
    (higher : ∀ y, checkImage .load (s.slotByte slot.other) = .ok y →
      (s.slotGeneration slot.other).toNat < (s.slotGeneration slot).toNat ∨
        (slot = .a ∧ (s.slotGeneration slot.other).toNat = (s.slotGeneration slot).toNat)) :
    s.selectSlot = some (slot, s.slotGeneration slot, x) := by
  have own : s.checkSlot slot = .ok x := valid
  unfold State.selectSlot
  cases other : s.checkSlot slot.other with
  | error reason => cases slot <;> simp only [FlashSlot.other] at other <;> simp only [own, other]
  | ok y =>
    have order := higher y other
    cases slot with
    | a =>
      simp only [FlashSlot.other] at other order
      have first : ¬ (s.slotGeneration .a).toNat < (s.slotGeneration .b).toNat := by omega
      simp only [own, other, first, if_false]
    | b =>
      simp only [FlashSlot.other] at other order
      have second : (s.slotGeneration .a).toNat < (s.slotGeneration .b).toNat := by
        obtain lower | ⟨wrong, -⟩ := order
        · exact lower
        · cases wrong
      simp only [own, other, second, if_true]

theorem State.resultOf_eq (s : State) (slot : FlashSlot) :
    slotResult (s.checkSlot slot) (s.slotGeneration slot) = s.resultOf slot := by
  unfold State.resultOf slotResult State.checkSlot
  cases checkImage .load (s.slotByte slot) <;> rfl

end

/-! ### The end of a load with an image (R153, R158) -/

theorem exec_loadEnd (s : State) : exec .loadEnd s = execLoadEnd s := rfl

theorem exec_loadStatusTimeout (s : State) : exec .loadStatusTimeout s = execLoadStatusTimeout s := rfl

section
variable {s : State} {run : LoadRun} {slot : FlashSlot} {x : Image}

theorem State.loading_of_high (high : s.resetLow = false) (load : s.loader.load = some run) : s.loading = some run := by
  rw [State.loading, if_neg (by rw [high]; exact Bool.false_ne_true), load]

theorem exec_loadEnd_of_load (high : s.resetLow = false) (load : s.loader.load = some run) :
    exec .loadEnd s = .next (s.finishLoad run.restart) := by
  rw [exec_loadEnd, execLoadEnd, State.loading_of_high high load]

/-- R152, R153, steps 1 to 4: the image is in force, and no line has moved yet. -/
def State.inForce (s : State) (slot : FlashSlot) (x : Image) : State :=
  (s.modifyLoader fun r =>
    { r with
      resultA := slotResult (s.checkSlot .a) (s.slotGeneration .a)
      resultB := slotResult (s.checkSlot .b) (s.slotGeneration .b)
      partState := .ready, loaded := some slot, generation := s.slotGeneration slot, spare := slot.other
      spareState := .stale, load := none }).force x

theorem State.finishLoad_of_selected (selected : s.selectSlot = some (slot, s.slotGeneration slot, x)) (restart : Bool) :
    s.finishLoad restart = if restart then (s.inForce slot x).resolveConflicts x else (s.inForce slot x).startUp := by
  rw [State.finishLoad, selected]
  rfl

theorem State.line_inForce (l : LineId) :
    (s.inForce slot x).line l = { s.line l with statics := some (x.lines.get l) } := State.line_force _ x l

theorem State.interlocks_inForce : (s.inForce slot x).interlocks = ruleSlots x.rules := State.force_interlocks _ x

theorem State.session_forceAgents (u : State) (settings : Port → Bool × Bool × Bool) (n : Port) :
    (u.forceAgents settings).session n = { u.session n with
      configure := (settings n).1, priority := (settings n).2.1, presenceUsed := (settings n).2.2 } := by
  rw [State.session, State.forceAgents, Table.get_ofFn]

theorem State.sessions_force (u : State) (x : Image) :
    (u.force x).sessions = ((u.forceStatics x).forceAgents fun n => x.agents.get n).sessions := rfl

theorem State.session_forceStatics (u : State) (x : Image) (n : Port) : (u.forceStatics x).session n = u.session n := by
  rw [State.session, State.forceStatics, State.session]

theorem State.session_force (u : State) (x : Image) (n : Port) : (u.force x).session n = { u.session n with
    configure := (x.agents.get n).1, priority := (x.agents.get n).2.1, presenceUsed := (x.agents.get n).2.2 } := by
  have forced := State.session_forceAgents (u.forceStatics x) (fun n => x.agents.get n) n
  rw [State.session_forceStatics, State.session, ← State.sessions_force] at forced
  exact forced

theorem State.sequence_force (u : State) (x : Image) (q : SeqNumber) : (u.force x).sequence q =
    (x.sequences.get q).map fun ss => { origin := .profile, steps := ss } := Table.get_map _ x.sequences q

theorem State.wakeWatches_force (u : State) (x : Image) : (u.force x).wakeWatches = x.wakes.map fun w =>
    { w with view := some { filtered := (u.line w.line).observed, candidate := none } } := by
  refine List.map_congr_left fun w _ => ?_
  have line : ((u.forceStatics x).forceAgents fun n => x.agents.get n).line w.line =
      { u.line w.line with statics := some (x.lines.get w.line) } := Table.get_ofFn _ w.line
  rw [State.seedWake, line]

/-- R153, R158: the state at the end of a load with an image. -/
def State.loadedState (s : State) (restart : Bool) (slot : FlashSlot) (x : Image) : State :=
  if restart then (s.inForce slot x).resolveConflicts x else (s.inForce slot x).startUp

variable (restart : Bool)

theorem State.loadedState_same (s : State) (slot : FlashSlot) (x : Image) :
    (s.inForce slot x).SameButLines (s.loadedState restart slot x) := by
  unfold State.loadedState
  split_ifs
  · exact State.resolveConflicts_same _ x
  · exact State.startUp_same _

theorem Line.driven_statics (ln : Line) (d : Drive) (now : LineTime) : (ln.driven d now).statics = ln.statics := by
  unfold Line.driven
  split_ifs <;> rfl

theorem Line.checkedIn_statics (ln : Line) (now : LineTime) : (ln.checkedIn now).statics = ln.statics := by
  rw [Line.checkedIn_eq]

theorem Line.pinnedAgain_statics (ln : Line) (now : LineTime) : (ln.pinnedAgain now).statics = ln.statics := by
  unfold Line.pinnedAgain
  split_ifs
  · rw [Line.driven_statics, Line.checkedIn_statics]
    rfl
  · rfl

theorem Line.startedUp_statics (ln : Line) (now : LineTime) : (ln.startedUp now).statics = ln.statics := by
  unfold Line.startedUp
  split_ifs
  · rw [Line.driven_statics, Line.checkedIn_statics]
    rfl
  · rfl

theorem State.statics_startUp {u : State} {l : LineId} {st : Option Statics} (statics : (u.line l).statics = st) :
    (u.startUp.line l).statics = st := by
  rw [State.line_startUp, Line.startedUp_statics, statics]

theorem State.statics_resolveConflicts {u : State} {l : LineId} {st : Option Statics}
    (statics : (u.line l).statics = st) : ((u.resolveConflicts x).line l).statics = st := by
  rw [State.line_resolveConflicts]
  split_ifs
  · exact statics
  · rw [Line.pinnedAgain_statics, statics]

theorem State.statics_loadedState (s : State) (slot : FlashSlot) (x : Image) (l : LineId) :
    ((s.loadedState restart slot x).line l).statics = some (x.lines.get l) := by
  have forced : ((s.inForce slot x).line l).statics = some (x.lines.get l) := by rw [State.line_inForce]
  unfold State.loadedState
  split_ifs
  · exact State.statics_resolveConflicts forced
  · exact State.statics_startUp forced

theorem InterlockSlot.content_place (slot : InterlockSlot) (sets : LineId → Levels) :
    (slot.place sets).content = slot.content := by
  cases slot <;> rfl

theorem ruleSlots_content (rules : List Rule) (k : RuleSlot) :
    ((ruleSlots rules).get k).content = (rules[k.val]?).map fun r => (r, .fixed) := by
  rw [ruleSlots_get]
  cases rules[k.val]? <;> rfl

/-- R153, step 2: the image's rules stand in the table, of origin FIXED. -/
theorem State.content_loadedState (s : State) (slot : FlashSlot) (x : Image) (k : RuleSlot) :
    ((s.loadedState restart slot x).ruleAt k).content = (x.rules[k.val]?).map fun r => (r, .fixed) := by
  unfold State.loadedState
  split_ifs
  · rw [State.ruleAt_resolveConflicts, InterlockSlot.content_place, ruleSlots_content]
  · have table := State.KeepsTable.startUp (s.inForce slot x) k
    rw [table, State.ruleAt, State.interlocks_inForce, ruleSlots_content]

theorem exec_loadEnd_of_selected {r : LoadRun} (high : s.resetLow = false) (load : s.loader.load = some r)
    (selected : s.selectSlot = some (slot, s.slotGeneration slot, x)) :
    exec .loadEnd s = .next (s.loadedState r.restart slot x) := by
  rw [exec_loadEnd_of_load high load, State.finishLoad_of_selected selected, State.loadedState]

/-! #### The restart conflict rule (R64) -/

/-- R64, step 3: the model's pass over the rules is the one of the statement, as no pinned line is ever chosen. -/
theorem State.conflictPass_conflicts (s : State) (drives : LineId → Drive) : ∀ (rules : List Rule) (chosen : List LineId),
    (∀ l ∈ chosen, (s.line l).static.pinned = false) →
    ConflictPass (fun l => (s.line l).static.pinned)
      (fun l => if (s.line l).static.pinned = true then (s.line l).static.fallback.levels else (drives l).levels)
      rules chosen (s.conflicts drives rules chosen)
  | [], _, _ => rfl
  | r :: rest, chosen, unpinned => by
    have settled : s.settled drives chosen = fun l => if l ∈ chosen then Levels.empty
        else if (s.line l).static.pinned = true then (s.line l).static.fallback.levels else (drives l).levels := by
      funext l
      rw [State.settled]
      by_cases listed : l ∈ chosen
      · rw [if_neg (by rw [unpinned l listed]; exact Bool.false_ne_true), if_pos (List.contains_iff_mem.mpr listed),
          if_pos listed]
      · simp only [List.contains_iff_mem, listed, if_false]
    have next {more : List LineId} (choice : (s.conflictChoice r).toList = more) :
        ConflictPass (fun l => (s.line l).static.pinned)
          (fun l => if (s.line l).static.pinned = true then (s.line l).static.fallback.levels else (drives l).levels)
          rest (chosen ++ more) (s.conflicts drives rest (chosen ++ (s.conflictChoice r).toList)) := by
      rw [← choice]
      refine conflictPass_conflicts s drives rest _ fun l listed => ?_
      exact (List.mem_append.mp listed).elim (unpinned l) s.conflictChoice_unpinned
    rw [ConflictPass, State.conflicts, settled]
    by_cases isMatched : r.matchedBy (fun l => if l ∈ chosen then Levels.empty
        else if (s.line l).static.pinned = true then (s.line l).static.fallback.levels else (drives l).levels) = true
    · rw [if_pos isMatched, if_pos isMatched]
      refine ⟨fun x y => ?_, fun x y => ?_, fun x y => ?_, fun x y => ?_⟩
      · have same := next (more := []) (by rw [State.conflictChoice, x, y]; rfl)
        rwa [List.append_nil] at same
      all_goals exact next (by rw [State.conflictChoice, x, y]; rfl)
    · rw [if_neg isMatched, if_neg isMatched]
      exact conflictPass_conflicts s drives rest chosen unpinned

end

section
variable {s : State} {slot : FlashSlot} {x : Image}

theorem State.inForce_fields (s : State) (slot : FlashSlot) (x : Image) :
    let t := s.inForce slot x
    t.groups = x.groups ∧ t.lineTime = s.lineTime ∧ t.ports = s.ports ∧ t.flash = s.flash ∧
      t.pendingList = s.pendingList ∧ t.slots = s.slots ∧ t.attention = s.attention ∧ t.presence = s.presence := by
  dsimp only [State.inForce, State.force, State.forceAgents, State.forceStatics, State.modifyLoader]
  exact ⟨rfl, rfl, rfl, rfl, rfl, rfl, rfl, rfl⟩

theorem State.lineTime_inForce (s : State) (slot : FlashSlot) (x : Image) :
    (s.inForce slot x).lineTime = s.lineTime := by
  obtain ⟨-, same, -⟩ := State.inForce_fields s slot x
  exact same

/-- R153: everything but the lines' moves, at the end of a load with an image. -/
theorem State.loadedState_fields (restart : Bool) (s : State) (slot : FlashSlot) (x : Image) :
    let t := s.loadedState restart slot x
    t.loader = (s.inForce slot x).loader ∧ t.sessions = (s.inForce slot x).sessions ∧
      t.store = (s.inForce slot x).store ∧ t.wakeWatches = (s.inForce slot x).wakeWatches ∧ t.groups = x.groups ∧
      t.lineTime = s.lineTime ∧ t.ports = s.ports ∧ t.flash = s.flash ∧ t.pendingList = s.pendingList ∧
      t.slots = s.slots ∧ t.attention = s.attention ∧ t.presence = s.presence := by
  have same := State.loadedState_same restart s slot x
  have fields := State.inForce_fields s slot x
  generalize s.inForce slot x = u at same fields
  unfold State.SameButLines at same
  rw [same]
  exact ⟨rfl, rfl, rfl, rfl, fields⟩

theorem State.loader_inForce (s : State) (slot : FlashSlot) (x : Image) : (s.inForce slot x).loader =
    { s.loader with
      resultA := s.resultOf .a, resultB := s.resultOf .b, partState := .ready, loaded := some slot
      generation := s.slotGeneration slot, spare := slot.other, spareState := .stale, load := none } := by
  rw [← s.resultOf_eq .a, ← s.resultOf_eq .b]
  unfold State.inForce State.force
  rfl

theorem State.session_loadedState (restart : Bool) (s : State) (slot : FlashSlot) (x : Image) (n : Port) :
    (s.loadedState restart slot x).session n = { s.session n with
      configure := (x.agents.get n).1, priority := (x.agents.get n).2.1, presenceUsed := (x.agents.get n).2.2 } := by
  obtain ⟨-, sessions, -⟩ := State.loadedState_fields restart s slot x
  rw [State.session, sessions, ← State.session, State.inForce, State.session_force]
  rfl

theorem State.sequence_loadedState (restart : Bool) (s : State) (slot : FlashSlot) (x : Image) (q : SeqNumber) :
    (s.loadedState restart slot x).sequence q =
      (x.sequences.get q).map fun ss => { origin := .profile, steps := ss } := by
  obtain ⟨-, -, store, -⟩ := State.loadedState_fields restart s slot x
  rw [State.sequence, store, ← State.sequence, State.inForce, State.sequence_force]

theorem State.wakeWatches_loadedState (restart : Bool) (s : State) (slot : FlashSlot) (x : Image) :
    (s.loadedState restart slot x).wakeWatches = x.wakes.map fun w =>
      { w with view := some { filtered := (s.line w.line).observed, candidate := none } } := by
  obtain ⟨-, -, -, watches, -⟩ := State.loadedState_fields restart s slot x
  rw [watches, State.inForce, State.wakeWatches_force]
  rfl

theorem State.ruleAt_of_content {t : State} {k : RuleSlot} (content : (t.ruleAt k).content =
    (x.rules[k.val]?).map fun r => (r, .fixed)) : (∀ rule, x.rules[k.val]? = some rule →
      ∃ st, t.ruleAt k = .rule rule st .fixed) ∧ (x.rules[k.val]? = none → t.ruleAt k = .empty) := by
  refine ⟨fun rule listed => ?_, fun absent => ?_⟩
  · rw [listed] at content
    exact InterlockSlot.content_eq_some_iff.mp content
  · rw [absent] at content
    exact InterlockSlot.content_eq_none_iff.mp content

/-! #### The lines and the table after a reset's and after a restart's load (R46, R48, R64) -/

theorem State.static_inForce (s : State) (slot : FlashSlot) (x : Image) (l : LineId) :
    ((s.inForce slot x).line l).static = x.lines.get l := by
  rw [State.line_inForce]
  rfl

theorem Line.startedUp_pinned {ln : Line} (pinned : ln.static.pinned = true) (float : ln.drive = .float)
    (now : LineTime) : ln.startedUp now = ln.profileHeld.driven ln.static.fallback now := by
  have unchecked : ln.profileHeld.drive.checked = false := by rw [Line.profileHeld, float]; rfl
  rw [Line.startedUp, if_pos pinned, Line.checkedIn_of_unchecked now unchecked]

theorem Line.startedUp_unpinned {ln : Line} (unpinned : ln.static.pinned = false) (now : LineTime) :
    ln.startedUp now = ln.released .start ln.static.fallback now := by
  rw [Line.startedUp, unpinned, if_neg Bool.false_ne_true]

theorem Line.pinnedAgain_pinned {ln : Line} (pinned : ln.static.pinned = true) (now : LineTime) :
    ln.pinnedAgain now = (ln.profileHeld.checkedIn now).driven ln.static.fallback now := if_pos pinned

theorem Line.pinnedAgain_unpinned {ln : Line} (unpinned : ln.static.pinned = false) (now : LineTime) :
    ln.pinnedAgain now = ln := by
  rw [Line.pinnedAgain, unpinned, if_neg Bool.false_ne_true]

theorem State.ruleAt_startUp_inForce (noMove : ∀ l, (s.line l).move = none) {k : RuleSlot} {rule : Rule}
    (listed : x.rules[k.val]? = some rule) : (s.inForce slot x).startUp.ruleAt k = .rule rule .occupied .fixed := by
  have still (l : LineId) : ((s.inForce slot x).line l).move = none := by rw [State.line_inForce]; exact noMove l
  rw [State.ruleAt, State.interlocks_startUp _ still, State.interlocks_inForce, ruleSlots_get, listed]

theorem State.conflictPass_inForce (s : State) (slot : FlashSlot) (x : Image) :
    ConflictPass (fun l => (x.lines.get l).pinned)
      (fun l => if (x.lines.get l).pinned = true then (x.lines.get l).fallback.levels else (s.line l).drive.levels)
      (x.rules.take 32) [] ((s.inForce slot x).chosen x) := by
  have pass := State.conflictPass_conflicts (s.inForce slot x) (fun l => ((s.inForce slot x).line l).drive)
    (x.rules.take 32) [] (fun _ listed => absurd listed List.not_mem_nil)
  simp only [State.static_inForce] at pass
  simp only [State.line_inForce] at pass
  rw [State.chosen]
  simp only [State.line_inForce]
  exact pass

end

/-- Settles O51: the image in force (`inForce`), then the lines by `startUp` or `resolveConflicts`. -/
theorem loadBringsTheImageIntoForce : Obligations.LoadBringsTheImageIntoForce := by
  unfold Obligations.LoadBringsTheImageIntoForce
  refine ⟨fun r slot x s high load valid higher => ?_, fun r slot x s high load restart selected rest => ?_,
    fun r slot x s high load restart selected => ?_⟩
  · have executed := exec_loadEnd_of_selected high load (State.selectSlot_of_valid valid higher)
    obtain ⟨loader, -, -, -, groups, lineTime, ports, flash, pending, slots, attention, presence⟩ :=
      State.loadedState_fields r.restart s slot x
    rw [State.loader_inForce] at loader
    refine ⟨_, executed, by rw [loader], by rw [loader], by rw [loader], by rw [loader], by rw [loader],
      by rw [loader], by rw [loader], by rw [loader], State.statics_loadedState r.restart s slot x, groups,
      by rw [loader], by rw [loader], State.session_loadedState r.restart s slot x,
      State.sequence_loadedState r.restart s slot x, fun k => ?_, fun k => ?_,
      State.wakeWatches_loadedState r.restart s slot x, lineTime, ports, flash, pending, slots, attention, presence⟩
    · exact (State.ruleAt_of_content (State.content_loadedState r.restart s slot x k)).1
    · exact (State.ruleAt_of_content (State.content_loadedState r.restart s slot x k)).2
  · have executed := exec_loadEnd_of_selected high load selected
    rw [restart, State.loadedState, if_neg Bool.false_ne_true] at executed
    refine ⟨_, executed, fun l => ⟨fun pinned => ?_, fun unpinned => ?_, fun k rule listed => ?_⟩⟩
    · have static := State.static_inForce s slot x l
      have line := State.line_inForce (s := s) (slot := slot) (x := x) l
      rw [State.line_startUp, Line.startedUp_pinned (by rw [static]; exact pinned) (by rw [line]; exact (rest l).1), static,
        State.lineTime_inForce, line]
      rfl
    · have static := State.static_inForce s slot x l
      rw [State.line_startUp, Line.startedUp_unpinned (by rw [static]; exact unpinned), static,
        State.lineTime_inForce, State.line_inForce]
    · exact State.ruleAt_startUp_inForce (fun l => (rest l).2.2.1) listed
  · have executed := exec_loadEnd_of_selected high load selected
    rw [restart, State.loadedState, if_pos rfl] at executed
    refine ⟨_, (s.inForce slot x).chosen x, executed, State.conflictPass_inForce s slot x, fun l => ?_,
      fun k rule listed => ?_⟩
    · have static := State.static_inForce s slot x l
      rw [State.line_resolveConflicts]
      refine ⟨fun pinned => ?_, fun unpinned listed => ?_, fun unpinned unlisted => ?_⟩
      · have unlisted : l ∉ (s.inForce slot x).chosen x := fun listed => by
          have unpinned := (s.inForce slot x).chosen_unpinned x listed
          rw [static] at unpinned
          exact Bool.false_ne_true (unpinned.symm.trans pinned)
        rw [if_neg unlisted, Line.pinnedAgain_pinned (by rw [static]; exact pinned), static, State.lineTime_inForce,
          State.line_inForce]
        rfl
      · rw [if_pos listed, State.lineTime_inForce, State.line_inForce]
        rfl
      · rw [if_neg unlisted, Line.pinnedAgain_unpinned (by rw [static]; exact unpinned), State.line_inForce]
    · rw [State.ruleAt_resolveConflicts, ruleSlots_get, listed]
      rfl

end Sys2Proof.Machine

/-! PROOFS: the end of a load without an image (O52), RESTART (O53) and the reset pin (O54). -/

namespace Sys2Proof.Machine

/-! ### The end of a load without an image (R152, R154) -/

section
variable {s : State} {run : LoadRun}

/-- R152: the two slot results that the end of a load writes. -/
def State.withResults (s : State) (a b : SlotResult) : State := s.modifyLoader fun r => { r with resultA := a, resultB := b }

/-- R154: the part is DEGRADED, and no line has moved yet. -/
def State.degraded (s : State) : State :=
  (s.modifyLoader fun r =>
    { r with partState := .degraded, loaded := none, generation := 0, spare := .a, spareState := .stale,
             load := none }).degrade

theorem State.endDegraded_eq (s : State) (restart : Bool) :
    s.endDegraded restart = if restart then s.degraded.floatAll else s.degraded := rfl

theorem State.finishLoad_of_errors {ea eb : ImageFault} (first : s.checkSlot .a = .error ea)
    (second : s.checkSlot .b = .error eb) (restart : Bool) : s.finishLoad restart =
      (s.withResults (.invalid ea (s.slotGeneration .a)) (.invalid eb (s.slotGeneration .b))).endDegraded restart := by
  have selected : s.selectSlot = none := by rw [State.selectSlot, first, second]
  rw [State.finishLoad, selected, first, second]
  rfl

theorem exec_loadStatusTimeout_of_due (high : s.resetLow = false) (load : s.loader.load = some run)
    (due : s.lineTime = run.began + 400000) : exec .loadStatusTimeout s =
      .next ((s.withResults .notRead .notRead).endDegraded run.restart) := by
  have timeout : s.loadTimeout = some run := by
    rw [State.loadTimeout, State.loading_of_high high load]
    exact if_pos due
  rw [exec_loadStatusTimeout, execLoadStatusTimeout, timeout]
  rfl

variable (s)

theorem State.session_degraded (n : Port) : s.degraded.session n =
    { s.session n with configure := true, priority := false, presenceUsed := false } := by
  rw [State.degraded, State.degrade]
  exact State.session_forceAgents _ (fun _ => (true, false, false)) n

theorem State.degraded_fields :
    let t := s.degraded
    t.loader = { s.loader with partState := .degraded, loaded := none, generation := 0, spare := .a,
                               spareState := .stale, load := none } ∧
      t.interlocks = Vector.replicate 32 .empty ∧ t.groups = Vector.replicate 12 none ∧
      t.store = Vector.replicate 8 none ∧ t.wakeWatches = [] ∧ t.lines = s.lines ∧ t.lineTime = s.lineTime ∧
      t.ports = s.ports ∧ t.flash = s.flash ∧ t.pendingList = s.pendingList ∧ t.attention = s.attention ∧
      t.wakeOut = s.wakeOut := by
  dsimp only [State.degraded, State.degrade, State.forceAgents, State.modifyLoader]
  exact ⟨rfl, rfl, rfl, rfl, rfl, rfl, rfl, rfl, rfl, rfl, rfl, rfl⟩

variable (restart : Bool)

theorem State.endDegraded_same : s.degraded.SameButLines (s.endDegraded restart) := by
  rw [State.endDegraded_eq]
  split_ifs
  · exact s.degraded.floatAll_same
  · exact .refl _

theorem State.keepsTable_endDegraded : s.degraded.KeepsTable (s.endDegraded restart) := by
  rw [State.endDegraded_eq]
  split_ifs
  · exact .floatAll _
  · exact .refl _

/-- R154: a DEGRADED part has no rule. -/
theorem State.ruleAt_endDegraded (k : RuleSlot) : (s.endDegraded restart).ruleAt k = .empty := by
  obtain ⟨-, interlocks, -⟩ := s.degraded_fields
  have content := s.keepsTable_endDegraded restart k
  rw [State.ruleAt, State.ruleAt, interlocks, Table.get_replicate] at content
  exact InterlockSlot.content_eq_none_iff.mp content

theorem State.endDegraded_fields :
    let t := s.endDegraded restart
    t.loader = { s.loader with partState := .degraded, loaded := none, generation := 0, spare := .a,
                               spareState := .stale, load := none } ∧
      t.groups = Vector.replicate 12 none ∧ t.store = Vector.replicate 8 none ∧ t.wakeWatches = [] ∧
      t.sessions = s.degraded.sessions ∧ t.lineTime = s.lineTime ∧ t.ports = s.ports ∧ t.flash = s.flash ∧
      t.pendingList = s.pendingList ∧ t.attention = s.attention ∧ t.wakeOut = s.wakeOut := by
  have same := s.endDegraded_same restart
  obtain ⟨loader, -, groups, store, wakes, -, lineTime, ports, flash, pending, attention, wakeOut⟩ := s.degraded_fields
  unfold State.SameButLines at same
  rw [same]
  exact ⟨loader, groups, store, wakes, rfl, lineTime, ports, flash, pending, attention, wakeOut⟩

theorem State.line_degraded (l : LineId) : s.degraded.line l = s.line l := by
  obtain ⟨-, -, -, -, -, lines, -⟩ := s.degraded_fields
  rw [State.line, lines, State.line]

theorem State.lineTime_degraded : s.degraded.lineTime = s.lineTime := by
  obtain ⟨-, -, -, -, -, -, lineTime, -⟩ := s.degraded_fields
  exact lineTime

/-- R154: a part that starts DEGRADED moves no line. -/
theorem State.lines_endDegraded_reset : (s.endDegraded false).lines = s.lines := by
  obtain ⟨-, -, -, -, -, lines, -⟩ := s.degraded_fields
  exact lines

/-- R22, R48: after a RESTART every driven line is floated. -/
theorem State.line_endDegraded_restart (l : LineId) : (s.endDegraded true).line l =
    if (s.line l).drive = .float then s.line l else (s.line l).floated s.lineTime := by
  rw [State.endDegraded_eq, if_pos rfl, State.line_floatAll, State.line_degraded, State.lineTime_degraded]

end

/-- Settles O52: both causes end in `endDegraded`, whose one field that depends on the cause is the slot results. -/
theorem loadWithoutAnImageDegrades : Obligations.LoadWithoutAnImageDegrades := by
  unfold Obligations.LoadWithoutAnImageDegrades
  intro r s high load _ degraded
  have ended (a b : SlotResult) : degraded a b ((s.withResults a b).endDegraded r.restart) := by
    obtain ⟨loader, groups, store, wakes, sessions, lineTime, ports, flash, pending, attention, wakeOut⟩ :=
      (s.withResults a b).endDegraded_fields r.restart
    refine ⟨loader, State.ruleAt_endDegraded _ _, fun g => ?_, fun q => ?_, wakes, fun n => ?_, fun reset => ?_,
      fun restarted l => ?_, lineTime, ports, flash, pending, attention, wakeOut⟩
    · rw [groups, Table.get_replicate]
    · rw [State.sequence, store, Table.get_replicate]
    · rw [State.session, sessions, ← State.session, State.session_degraded]
      rfl
    · rw [reset, State.lines_endDegraded_reset]
      rfl
    · rw [restarted, State.line_endDegraded_restart]
      exact ⟨fun float => if_pos float, fun driven => if_neg driven⟩
  refine ⟨fun ea eb first second => ⟨_, ?_, ended _ _⟩, fun due => ⟨_, ?_, ended _ _⟩⟩
  · rw [exec_loadEnd_of_load high load, State.finishLoad_of_errors first second]
  · exact exec_loadStatusTimeout_of_due high load due


/-! ### RESTART (R157) -/

section
variable (s : State)

theorem exec_restart (h : Header) : exec (.restart h) s = execRestart h s := rfl

/-- R157: what the restart leaves of a record does not depend on what its live part holds. -/
theorem Session.restarted_map (x : Session) (f : Live → Live) : ({ x with live := x.live.map f } : Session).restarted =
    if x.live.isSome then { x with lastEnd := .restart, live := none } else x := by
  obtain ⟨_, _, _, _, _, live⟩ := x
  cases live <;> rfl

theorem State.session_acceptRestart (n : Port) : s.acceptRestart.session n = (s.session n).restarted :=
  Table.get_map Session.restarted s.sessions n

theorem State.sequence_acceptRestart (q : SeqNumber) :
    s.acceptRestart.sequence q = Sequence.restarted (s.sequence q) := Table.get_map Sequence.restarted s.store q

/-- R93: hearing a request changes a record in its live part alone, and only where that part is there. -/
theorem State.session_heard_eq (h : Header) (k : Nat) (n : Port) :
    ∃ f : Live → Live, (s.heard h k).session n = { s.session n with live := (s.live n).map f } := by
  rw [State.heard, State.keepalive, State.session_modifyLive]
  split_ifs with own
  · subst own
    exact ⟨_, rfl⟩
  · refine ⟨id, ?_⟩
    rw [Option.map_id, id, State.live]
    rfl

theorem State.restarted_session_heard (h : Header) (k : Nat) (n : Port) : ((s.heard h k).session n).restarted =
    if s.isOpen n then { s.session n with lastEnd := .restart, live := none } else s.session n := by
  obtain ⟨f, heard⟩ := s.session_heard_eq h k n
  rw [heard]
  exact Session.restarted_map (s.session n) f

theorem InterlockSlot.restarted_fixed (r : Rule) (st : RuleStatus) :
    (InterlockSlot.rule r st .fixed).restarted = .rule r st .fixed := rfl

theorem InterlockSlot.restarted_notFixed {slot : InterlockSlot} (other : ∀ r st, slot ≠ .rule r st .fixed) :
    slot.restarted = .empty := by
  cases slot with
  | empty => rfl
  | rule r st origin =>
    cases origin with
    | fixed => exact absurd rfl (other r st)
    | runtime => rfl

theorem State.fixed_acceptRestart {k : RuleSlot} {r : Rule} {st : RuleStatus} (fixed : s.ruleAt k = .rule r st .fixed) :
    ∃ st', s.acceptRestart.ruleAt k = .rule r st' .fixed := by
  rw [State.ruleAt_acceptRestart, fixed, InterlockSlot.restarted_fixed]
  exact InterlockSlot.content_eq_some_iff.mp (InterlockSlot.content_settle _ _)

theorem State.notFixed_acceptRestart {k : RuleSlot} (other : ∀ r st, s.ruleAt k ≠ .rule r st .fixed) :
    s.acceptRestart.ruleAt k = .empty := by
  rw [State.ruleAt_acceptRestart, InterlockSlot.restarted_notFixed other, InterlockSlot.settle]

theorem State.acceptRestart_fields :
    let t := s.acceptRestart
    t.pendingList = [] ∧ t.slots = Vector.replicate 2 none ∧ t.wakeWatches = [] ∧
      t.wakeOut = Vector.replicate 3 false ∧ t.attention = Vector.replicate 3 false ∧
      t.loader = { s.loader with partState := .starting, load := some { began := s.lineTime, restart := true } } ∧
      t.groups = s.groups ∧ t.flash = s.flash ∧ t.ports = s.ports ∧ t.lineTime = s.lineTime ∧ t.presence = s.presence := by
  dsimp only [State.acceptRestart, State.settleReserved]
  exact ⟨rfl, rfl, rfl, rfl, rfl, rfl, rfl, rfl, rfl, rfl, rfl⟩

end

/-- Settles O53: RESTART is decided in the state in which it is heard, whose sessions differ from those it arrived in
only in what the acceptance clears. -/
theorem restartFreesEveryLineAndLoads : Obligations.RestartFreesEveryLineAndLoads := by
  unfold Obligations.RestartFreesEveryLineAndLoads
  refine fun h s hears => ⟨fun busy => ?_, fun idle => ⟨(s.heard h 0).acceptRestart, ?_, fun l => ?_, fun n => ?_,
    fun k r st => (s.heard h 0).fixed_acceptRestart, fun k => (s.heard h 0).notFixed_acceptRestart, fun q => ?_, ?_⟩⟩
  · obtain ⟨op, busy⟩ := Option.ne_none_iff_exists'.mp busy
    have decided : decideRestart (s.heard h 0) = .done (s.heard h 0) (Reply.bare .flashBusy) := by
      rw [decideRestart, show (s.heard h 0).loader.flashOp = some op from busy]
    rw [exec_restart, execRestart, State.serve_heard hears decided]
  · have decided : decideRestart (s.heard h 0) =
        .done (s.heard h 0).acceptRestart (Reply.of .ok (.lineTime s.lineTime)) := by
      rw [decideRestart, show (s.heard h 0).loader.flashOp = none from idle, State.heard_lineTime]
    rw [exec_restart, execRestart, State.serve_heard hears decided]
  · rw [State.line_acceptRestart, State.heard_line]
    rfl
  · rw [State.session_acceptRestart, State.restarted_session_heard]
  · rw [State.sequence_acceptRestart]
    show Sequence.restarted (s.sequence q) = _
    cases s.sequence q <;> rfl
  · obtain ⟨pending, slots, wakes, wakeOut, attention, loader, rest⟩ := (s.heard h 0).acceptRestart_fields
    refine ⟨pending, fun k => ?_, wakes, fun n => ?_, fun n => ?_, loader, rest⟩
    · rw [State.run, slots, Table.get_replicate]
    · rw [wakeOut, Table.get_replicate]
    · rw [attention, Table.get_replicate]

/-! ### The reset pin (R156) -/

section
variable (s : State) (left : FlashCells)

theorem exec_resetLow : exec (.resetLow left) s = .next (s.resetAll left) := rfl

theorem exec_resetRelease (levels : BitVec 48) :
    exec (.resetRelease levels left) s = .next ((s.resetAll left).release levels) := rfl

theorem State.port_resetAll (n : Port) : (s.resetAll left).port n = resetPort := Table.get_replicate _ n

theorem State.session_resetAll (n : Port) : (s.resetAll left).session n = resetSession := Table.get_replicate _ n

theorem State.sequence_resetAll (q : SeqNumber) : (s.resetAll left).sequence q = none := Table.get_replicate _ q

theorem State.flash_resetAll_idle (idle : s.loader.flashOp = none) : (s.resetAll left).flash = s.flash := by
  rw [State.resetAll, State.leftInFlash, idle]

theorem State.flash_resetAll_busy {op : FlashOp} (busy : s.loader.flashOp = some op) :
    (s.resetAll left).flash = Memory.leave s.flash s.loader.spare op.work.touches left := by
  rw [State.resetAll, State.leftInFlash, busy]

/-- R161 to R164: an abandoned program or erase can have changed no offset but those of its work. -/
theorem FlashWork.reaches_of_touches {w : FlashWork} {o : Nat} (touches : w.touches o = true) : w.Reaches o := by
  cases w with
  | read offset length => cases touches
  | erase => exact .inl rfl
  | write offset data =>
    obtain ⟨from_, below⟩ := of_decide_eq_true touches
    exact .inr (.inl ⟨offset, data, rfl, from_, below⟩)
  | commit => exact .inr (.inr ⟨rfl, of_decide_eq_true touches⟩)

end

/-- Settles O54: `resetAll` writes every block, and the release of the pin changes only what is sensed and begun then. -/
theorem resetPinResetsEveryBlock : Obligations.ResetPinResetsEveryBlock := by
  unfold Obligations.ResetPinResetsEveryBlock
  intro levels left s low
  have reset : low (s.resetAll left) := by
    refine ⟨rfl, rfl, rfl, s.ruleAt_resetAll left, Table.get_replicate _, s.session_resetAll left,
      s.sequence_resetAll left, s.run_resetAll left, Table.get_replicate _, Table.get_replicate _, s.port_resetAll left,
      rfl, rfl, rfl, s.flash_resetAll_idle left, fun op busy => ?_⟩
    have flash := s.flash_resetAll_busy left busy
    refine ⟨flash, fun a outside => ?_⟩
    rw [flash]
    exact Memory.read_leave_outside s.flash left fun o below touches =>
      outside o below (FlashWork.reaches_of_touches touches)
  have released : low ((s.resetAll left).release levels) := reset
  exact ⟨⟨_, exec_resetLow s left, reset, rfl, rfl, s.line_resetAll left⟩,
    ⟨_, exec_resetRelease s left levels, released, rfl, rfl, s.line_resetRelease left levels⟩⟩

end Sys2Proof.Machine

/-! PROOFS: the frames of requests. A well-formed request's frame reads back as that request (O10), and a transaction is
sorted by its first byte, length, CRC, request code and payload length (O11). -/

namespace Sys2Proof.Machine

/-! ### Items of a payload (R179) -/

theorem toNat_append_byte {w : Nat} (hi : BitVec w) (lo : Byte) : (hi ++ lo).toNat = 256 * hi.toNat + lo.toNat := by
  rw [BitVec.toNat_append, ← Nat.shiftLeft_add_eq_or_of_lt lo.isLt, Nat.shiftLeft_eq, Nat.mul_comm]

theorem toNat_word16 (lo hi : Byte) : (word16 lo hi).toNat = 256 * hi.toNat + lo.toNat := toNat_append_byte hi lo

theorem toNat_word32 (b0 b1 b2 b3 : Byte) :
    (word32 b0 b1 b2 b3).toNat = 256 * (256 * (256 * b3.toNat + b2.toNat) + b1.toNat) + b0.toNat := by
  rw [word32, toNat_append_byte, toNat_append_byte, toNat_append_byte]

theorem toNat_byteAt {w : Nat} (v : BitVec w) (k : Nat) : ((v >>> k).setWidth 8).toNat = v.toNat / 2 ^ k % 256 := by
  rw [BitVec.toNat_setWidth, BitVec.toNat_ushiftRight, Nat.shiftRight_eq_div_pow]

theorem toNat_lowByte {w : Nat} (v : BitVec w) : (v.setWidth 8).toNat = v.toNat % 256 := BitVec.toNat_setWidth _ v

theorem word16_bytes16 (v : BitVec 16) : word16 (v.setWidth 8) ((v >>> 8).setWidth 8) = v := by
  refine BitVec.eq_of_toNat_eq ?_
  have below := v.isLt
  rw [toNat_word16, toNat_byteAt, toNat_lowByte]
  omega

theorem word32_bytes32 (v : BitVec 32) :
    word32 (v.setWidth 8) ((v >>> 8).setWidth 8) ((v >>> 16).setWidth 8) ((v >>> 24).setWidth 8) = v := by
  refine BitVec.eq_of_toNat_eq ?_
  have below := v.isLt
  rw [toNat_word32, toNat_byteAt, toNat_byteAt, toNat_byteAt, toNat_lowByte]
  omega

theorem bytes16_word16 (lo hi : Byte) : bytes16 (word16 lo hi) = [lo, hi] := by
  have low := lo.isLt
  have high := hi.isLt
  have first : (word16 lo hi).setWidth 8 = lo := by
    refine BitVec.eq_of_toNat_eq ?_
    rw [toNat_lowByte, toNat_word16]
    omega
  have second : (word16 lo hi >>> 8).setWidth 8 = hi := by
    refine BitVec.eq_of_toNat_eq ?_
    rw [toNat_byteAt, toNat_word16]
    omega
  rw [bytes16, first, second]

theorem bytes32_word32 (b0 b1 b2 b3 : Byte) : bytes32 (word32 b0 b1 b2 b3) = [b0, b1, b2, b3] := by
  have lt0 := b0.isLt
  have lt1 := b1.isLt
  have lt2 := b2.isLt
  have lt3 := b3.isLt
  have at0 : (word32 b0 b1 b2 b3).setWidth 8 = b0 := by
    refine BitVec.eq_of_toNat_eq ?_
    rw [toNat_lowByte, toNat_word32]
    omega
  have at1 : (word32 b0 b1 b2 b3 >>> 8).setWidth 8 = b1 := by
    refine BitVec.eq_of_toNat_eq ?_
    rw [toNat_byteAt, toNat_word32]
    omega
  have at2 : (word32 b0 b1 b2 b3 >>> 16).setWidth 8 = b2 := by
    refine BitVec.eq_of_toNat_eq ?_
    rw [toNat_byteAt, toNat_word32]
    omega
  have at3 : (word32 b0 b1 b2 b3 >>> 24).setWidth 8 = b3 := by
    refine BitVec.eq_of_toNat_eq ?_
    rw [toNat_byteAt, toNat_word32]
    omega
  rw [bytes32, at0, at1, at2, at3]

theorem toNat_byteOf {n : Nat} (small : n ≤ 240) : (byteOf n).toNat = n := by
  rw [byteOf, BitVec.toNat_ofNat]
  omega

/-! ### The items of a list payload (R179) -/

theorem parseEntries_bytes : ∀ es : List RawSetEntry, parseEntries (es.flatMap entryBytes) = some es
  | [] => rfl
  | e :: es => by
    rw [List.flatMap_cons]
    exact congrArg (Option.map (e :: ·)) (parseEntries_bytes es)

theorem parseSteps_bytes : ∀ ss : List RawStep, parseSteps (ss.flatMap stepBytes) = some ss
  | [] => rfl
  | st :: ss => by
    have hold := word16_bytes16 st.hold
    have step : parseSteps ((st :: ss).flatMap stepBytes) = (parseSteps (ss.flatMap stepBytes)).map
        ({ st with hold := word16 (st.hold.setWidth 8) ((st.hold >>> 8).setWidth 8) } :: ·) := rfl
    rw [step, hold, parseSteps_bytes ss]
    rfl

theorem parseIds_bytes : ∀ ids : List RawNoticeId, parseIds (ids.flatMap idBytes) = some ids
  | [] => rfl
  | x :: ids => by
    rw [List.flatMap_cons]
    exact congrArg (Option.map (x :: ·)) (parseIds_bytes ids)

theorem parseEntries_reads : ∀ bytes : List Byte, (parseEntries bytes).isSome = (bytes.length % 3 == 0) ∧
    ∀ es ∈ parseEntries bytes, es.flatMap entryBytes = bytes
  | [] => ⟨rfl, fun es same => by rw [← Option.some.inj same]; rfl⟩
  | [_] => ⟨rfl, nofun⟩
  | [_, _] => ⟨rfl, nofun⟩
  | l :: m :: v :: rest => by
    obtain ⟨length, bytes⟩ := parseEntries_reads rest
    rw [parseEntries, Option.isSome_map, length]
    refine ⟨by simp only [List.length_cons, Nat.add_assoc, Nat.add_mod_right], fun es parsed => ?_⟩
    obtain ⟨tail, read, rfl⟩ := Option.map_eq_some_iff.mp parsed
    rw [List.flatMap_cons, bytes tail read]
    rfl

theorem parseSteps_reads : ∀ bytes : List Byte, (parseSteps bytes).isSome = (bytes.length % 5 == 0) ∧
    ∀ ss ∈ parseSteps bytes, ss.flatMap stepBytes = bytes
  | [] => ⟨rfl, fun ss same => by rw [← Option.some.inj same]; rfl⟩
  | [_] => ⟨rfl, nofun⟩
  | [_, _] => ⟨rfl, nofun⟩
  | [_, _, _] => ⟨rfl, nofun⟩
  | [_, _, _, _] => ⟨rfl, nofun⟩
  | l :: m :: v :: h0 :: h1 :: rest => by
    obtain ⟨length, bytes⟩ := parseSteps_reads rest
    rw [parseSteps, Option.isSome_map, length]
    refine ⟨by simp only [List.length_cons, Nat.add_assoc, Nat.add_mod_right], fun ss parsed => ?_⟩
    obtain ⟨tail, read, rfl⟩ := Option.map_eq_some_iff.mp parsed
    rw [List.flatMap_cons, bytes tail read, stepBytes, bytes16_word16]
    rfl

theorem parseIds_reads : ∀ bytes : List Byte, (parseIds bytes).isSome = (bytes.length % 2 == 0) ∧
    ∀ ids ∈ parseIds bytes, ids.flatMap idBytes = bytes
  | [] => ⟨rfl, fun ids same => by rw [← Option.some.inj same]; rfl⟩
  | [_] => ⟨rfl, nofun⟩
  | k :: i :: rest => by
    obtain ⟨length, bytes⟩ := parseIds_reads rest
    rw [parseIds, Option.isSome_map, length]
    refine ⟨by simp only [List.length_cons, Nat.add_assoc, Nat.add_mod_right], fun ids parsed => ?_⟩
    obtain ⟨tail, read, rfl⟩ := Option.map_eq_some_iff.mp parsed
    rw [List.flatMap_cons, bytes tail read]
    rfl

/-! ### What each request reads (R182) -/

/-- The parse of a payload of request `number` succeeds exactly where its length is allowed, and gives a request of those
parts. -/
structure ReadsAs (h : Header) (number : Nat) (payload : List Byte) (allowed : Bool) (parsed : Option Instr) : Prop where
  length : parsed.isSome = allowed
  parts : ∀ i ∈ parsed, requestParts i = some (h, BitVec.ofNat 8 number, payload)

section
variable (h : Header) (number : Nat) (payload : List Byte)

theorem ReadsAs.allowed {i : Instr} (parts : requestParts i = some (h, BitVec.ofNat 8 number, payload)) :
    ReadsAs h number payload true (some i) :=
  ⟨rfl, fun _ same => Option.some.inj same ▸ parts⟩

/-- A payload whose length is not the one fixed for its code is not read. -/
theorem ReadsAs.refused {count : Nat} (other : payload.length ≠ count) :
    ReadsAs h number payload (payload.length == count) none :=
  ⟨(beq_eq_false_iff_ne.mpr other).symm, nofun⟩

/-- The same for a payload that is a list of items: it reads where the items do. -/
theorem ReadsAs.map {α : Type} {items : Option α} {allowed : Bool} {i : α → Instr} (length : items.isSome = allowed)
    (parts : ∀ a ∈ items, requestParts (i a) = some (h, BitVec.ofNat 8 number, payload)) :
    ReadsAs h number payload allowed (items.map i) := by
  refine ⟨by rw [Option.isSome_map, length], fun j read => ?_⟩
  obtain ⟨a, item, rfl⟩ := Option.map_eq_some_iff.mp read
  exact parts a item

variable {number}

theorem parseNone_reads {i : Instr} (parts : requestParts i = some (h, BitVec.ofNat 8 number, [])) :
    ReadsAs h number payload (payload.length == 0) (parseNone i payload) := by
  unfold parseNone
  split
  · exact .allowed h number [] parts
  · exact .refused h number _ nofun

theorem parseByte_reads {i : Byte → Instr} (parts : ∀ a, requestParts (i a) = some (h, BitVec.ofNat 8 number, [a])) :
    ReadsAs h number payload (payload.length == 1) (parseByte i payload) := by
  unfold parseByte
  split
  · exact .allowed h number _ (parts _)
  next other =>
    refine .refused h number payload fun length => ?_
    match payload, length with
    | [a], _ => exact other a rfl

theorem parseOpen_reads (sensed : Level) : ReadsAs h 0x01 payload (payload.length == 4) (parseOpen h sensed payload) := by
  unfold parseOpen
  split
  · refine .allowed h 0x01 _ ?_
    rw [requestParts, bytes16_word16]
    rfl
  next other =>
    refine .refused h 0x01 payload fun length => ?_
    match payload, length with
    | [p0, p1, m, k], _ => exact other p0 p1 m k rfl

theorem parseClaim_reads : ReadsAs h 0x10 payload (payload.length == 11) (parseClaim h payload) := by
  unfold parseClaim
  split
  · refine .allowed h 0x10 _ ?_
    rw [requestParts, bytes16_word16, bytes32_word32]
    rfl
  next other =>
    refine .refused h 0x10 payload fun length => ?_
    match payload, length with
    | [t, n, p0, p1, e0, e1, e2, e3, m, v, u], _ => exact other t n p0 p1 e0 e1 e2 e3 m v u rfl

theorem parseRelease_reads : ReadsAs h 0x12 payload (payload.length == 2) (parseRelease h payload) := by
  unfold parseRelease
  split
  · exact .allowed h 0x12 _ rfl
  next other =>
    refine .refused h 0x12 payload fun length => ?_
    match payload, length with
    | [t, n], _ => exact other t n rfl

theorem parseSetHeir_reads : ReadsAs h 0x14 payload (payload.length == 2) (parseSetHeir h payload) := by
  unfold parseSetHeir
  split
  · exact .allowed h 0x14 _ rfl
  next other =>
    refine .refused h 0x14 payload fun length => ?_
    match payload, length with
    | [l, a], _ => exact other l a rfl

theorem parseExtend_reads : ReadsAs h 0x15 payload (payload.length == 6) (parseExtend h payload) := by
  unfold parseExtend
  split
  · refine .allowed h 0x15 _ ?_
    rw [requestParts, bytes32_word32]
    rfl
  next other =>
    refine .refused h 0x15 payload fun length => ?_
    match payload, length with
    | [t, n, e0, e1, e2, e3], _ => exact other t n e0 e1 e2 e3 rfl

theorem parseAddInterlock_reads : ReadsAs h 0x20 payload (payload.length == 4) (parseAddInterlock h payload) := by
  unfold parseAddInterlock
  split
  · exact .allowed h 0x20 _ rfl
  next other =>
    refine .refused h 0x20 payload fun length => ?_
    match payload, length with
    | [x, a, y, b], _ => exact other x a y b rfl

theorem parseAddWatch_reads : ReadsAs h 0x30 payload (payload.length == 5) (parseAddWatch h payload) := by
  unfold parseAddWatch
  split
  · refine .allowed h 0x30 _ ?_
    rw [requestParts, bytes16_word16]
    rfl
  next other =>
    refine .refused h 0x30 payload fun length => ?_
    match payload, length with
    | [l, e, f0, f1, u], _ => exact other l e f0 f1 u rfl

theorem parseProfileRead_reads : ReadsAs h 0x38 payload (payload.length == 4) (parseProfileRead h payload) := by
  unfold parseProfileRead
  split
  · refine .allowed h 0x38 _ ?_
    rw [requestParts, bytes16_word16]
    rfl
  next other =>
    refine .refused h 0x38 payload fun length => ?_
    match payload, length with
    | [f, o0, o1, n], _ => exact other f o0 o1 n rfl

theorem parseStore_reads :
    ReadsAs h 0x28 payload (decide (1 ≤ payload.length) && (payload.length - 1) % 5 == 0) (parseStore h payload) := by
  unfold parseStore
  split
  next q rest =>
    obtain ⟨length, bytes⟩ := parseSteps_reads rest
    refine .map h 0x28 _ (by rw [length]; simp) fun ss read => ?_
    rw [requestParts, bytes ss read]
    rfl
  · exact ⟨rfl, nofun⟩

theorem parseProfileWrite_reads :
    ReadsAs h 0x3A payload (decide (2 ≤ payload.length)) (parseProfileWrite h payload) := by
  unfold parseProfileWrite
  split
  next o0 o1 data =>
    have long : decide (2 ≤ (o0 :: o1 :: data).length) = true := decide_eq_true (by simp)
    rw [long]
    refine .allowed h 0x3A _ ?_
    rw [requestParts, bytes16_word16]
    rfl
  next other =>
    refine ⟨(decide_eq_false fun long => ?_).symm, nofun⟩
    match payload, long with
    | o0 :: o1 :: data, _ => exact other o0 o1 data rfl

/-- R182: whether the code is known and allows the payload's length, and the request it then is. -/
inductive RequestReads (h : Header) (number : Nat) (payload : List Byte) : Option Bool → Option (Option Instr) → Prop
  | unknown : RequestReads h number payload none none
  | known {allowed : Bool} {parsed : Option Instr} (reads : ReadsAs h number payload allowed parsed) :
      RequestReads h number payload (some allowed) (some parsed)

theorem requestOf_reads (sensed : Level) (code : Byte) :
    RequestReads h code.toNat payload (payloadAllowed code.toNat payload.length) (requestOf h sensed code payload) := by
  unfold requestOf
  generalize code.toNat = number
  split
  · exact .known (parseOpen_reads h payload sensed)
  · exact .known (parseNone_reads h payload rfl)
  · exact .known (parseNone_reads h payload rfl)
  · exact .known (parseByte_reads h payload fun _ => rfl)
  · exact .known (parseNone_reads h payload rfl)
  · exact .known (parseNone_reads h payload rfl)
  · exact .known (parseClaim_reads h payload)
  · exact .known (parseByte_reads h payload fun _ => rfl)
  · exact .known (parseRelease_reads h payload)
  · obtain ⟨length, bytes⟩ := parseEntries_reads payload
    exact .known (.map h 0x13 payload length fun es read => by rw [requestParts, bytes es read]; rfl)
  · exact .known (parseSetHeir_reads h payload)
  · exact .known (parseExtend_reads h payload)
  · exact .known (parseByte_reads h payload fun _ => rfl)
  · exact .known (parseNone_reads h payload rfl)
  · exact .known (parseByte_reads h payload fun _ => rfl)
  · exact .known (parseAddInterlock_reads h payload)
  · exact .known (parseByte_reads h payload fun _ => rfl)
  · exact .known (parseNone_reads h payload rfl)
  · exact .known (parseStore_reads h payload)
  · exact .known (parseByte_reads h payload fun _ => rfl)
  · exact .known (parseByte_reads h payload fun _ => rfl)
  · exact .known (parseByte_reads h payload fun _ => rfl)
  · exact .known (parseAddWatch_reads h payload)
  · exact .known (parseByte_reads h payload fun _ => rfl)
  · exact .known (parseNone_reads h payload rfl)
  · obtain ⟨length, bytes⟩ := parseIds_reads payload
    exact .known (.map h 0x33 payload length fun ids read => by rw [requestParts, bytes ids read]; rfl)
  · exact .known (parseProfileRead_reads h payload)
  · exact .known (parseNone_reads h payload rfl)
  · exact .known (parseProfileWrite_reads h payload)
  · exact .known (parseNone_reads h payload rfl)
  · exact .known (parseNone_reads h payload rfl)
  · have unknown : payloadAllowed number payload.length = none := by
      unfold payloadAllowed
      split
      any_goals contradiction
      rfl
    rw [unknown]
    exact .unknown

end

/-! ### A request reads back (R169, R179) -/

theorem requestOf_parts {i : Instr} {p : Header × Byte × List Byte} {sensed : Level} (parts : requestParts i = some p)
    (level : ∀ h period limit mask level, i = .openSession h period limit mask level → level = sensed) :
    requestOf p.1 sensed p.2.1 p.2.2 = some (some i) := by
  cases i
  case openSession h period limit mask sensedThen =>
    obtain rfl := level _ _ _ _ _ rfl
    obtain rfl := Option.some.inj parts
    show some (some (Instr.openSession h (word16 _ _) limit mask sensedThen)) = _
    rw [word16_bytes16]
  case claim h target patience term drive urgency =>
    obtain rfl := Option.some.inj parts
    show some (some (Instr.claim h target (word16 _ _) (word32 _ _ _ _) drive urgency)) = _
    rw [word16_bytes16, word32_bytes32]
  case extend h target term =>
    obtain rfl := Option.some.inj parts
    show some (some (Instr.extend h target (word32 _ _ _ _))) = _
    rw [word32_bytes32]
  case setDrives h entries =>
    obtain rfl := Option.some.inj parts
    show some ((parseEntries (entries.flatMap entryBytes)).map (Instr.setDrives h)) = (_ : Option (Option Instr))
    rw [parseEntries_bytes]
    rfl
  case storeSequence h number steps =>
    obtain rfl := Option.some.inj parts
    show some ((parseSteps (steps.flatMap stepBytes)).map (Instr.storeSequence h number)) = (_ : Option (Option Instr))
    rw [parseSteps_bytes]
    rfl
  case ack h ids =>
    obtain rfl := Option.some.inj parts
    show some ((parseIds (ids.flatMap idBytes)).map (Instr.ack h)) = (_ : Option (Option Instr))
    rw [parseIds_bytes]
    rfl
  case addWatch h line edge filter urgency =>
    obtain rfl := Option.some.inj parts
    show some (some (Instr.addWatch h line edge (word16 _ _) urgency)) = _
    rw [word16_bytes16]
  case profileRead h slot offset length =>
    obtain rfl := Option.some.inj parts
    show some (some (Instr.profileRead h slot (word16 _ _) length)) = _
    rw [word16_bytes16]
  case profileWrite h offset data =>
    obtain rfl := Option.some.inj parts
    show some (some (Instr.profileWrite h (word16 _ _) data)) = _
    rw [word16_bytes16]
  all_goals cases parts
  all_goals rfl

theorem length_flatMap_const {α : Type} {f : α → List Byte} {k : Nat} (each : ∀ a, (f a).length = k) :
    ∀ as : List α, (as.flatMap f).length = k * as.length
  | [] => rfl
  | a :: as => by
    rw [List.flatMap_cons, List.length_append, each, length_flatMap_const each as, List.length_cons]
    ring

/-- R179: no request's payload is longer than 240 bytes. -/
theorem requestParts_length {i : Instr} {p : Header × Byte × List Byte} (formed : i.wellFormed = true)
    (parts : requestParts i = some p) : p.2.2.length ≤ 240 := by
  cases i
  case setDrives h entries =>
    obtain rfl := Option.some.inj parts
    have few : entries.length ≤ 80 := of_decide_eq_true formed
    rw [length_flatMap_const (k := 3) fun _ => rfl]
    omega
  case storeSequence h number steps =>
    obtain rfl := Option.some.inj parts
    have few : steps.length ≤ 47 := of_decide_eq_true formed
    rw [List.length_cons, length_flatMap_const (k := 5) fun _ => rfl]
    omega
  case ack h ids =>
    obtain rfl := Option.some.inj parts
    have few : ids.length ≤ 120 := of_decide_eq_true formed
    rw [length_flatMap_const (k := 2) fun _ => rfl]
    omega
  case profileWrite h offset data =>
    obtain rfl := Option.some.inj parts
    have few : data.length ≤ 238 := of_decide_eq_true formed
    rw [List.length_append]
    exact Nat.add_le_add_left few 2
  all_goals cases parts
  all_goals exact Nat.le_of_ble_eq_true rfl

/-! ### Frames and transactions (R169, R171, R173) -/

section
variable (n : Port) (sensed : Level) (kind seq tag code : Byte) {length : Byte} (payload : List Byte) (rest : List Byte)

theorem judgeTransaction_request : judgeTransaction n false sensed (0xA5 :: rest) =
    some (judgeFrame n sensed (0xA5 :: rest)) := rfl

theorem judgeTransaction_other {b : Byte} (noRequest : b ≠ 0xA5) (noCollect : b ≠ 0x5C) (inProcess : Bool) :
    judgeTransaction n inProcess sensed (b :: rest) = some (.ignoredTransaction n) := by
  rw [judgeTransaction, if_neg noRequest, if_neg noCollect]

theorem judgeFrame_noHeader (few : rest.length < 4) : judgeFrame n sensed (kind :: rest) =
    .badFrame n rest[0]? .short (1 + rest.length) :=
  match rest, few with
  | [], _ => rfl
  | [_], _ => rfl
  | [_, _], _ => rfl
  | [_, _, _], _ => rfl

theorem judgeFrame_long (long : 240 < length.toNat) :
    judgeFrame n sensed (kind :: seq :: tag :: code :: length :: rest) =
      .badFrame n (some seq) .length (min (5 + rest.length) 247) := if_pos long

theorem judgeFrame_short (fits : length.toNat ≤ 240) (short : rest.length < length.toNat + 2) :
    judgeFrame n sensed (kind :: seq :: tag :: code :: length :: rest) =
      .badFrame n (some seq) .short (5 + rest.length) := by
  rw [judgeFrame, if_neg (Nat.not_lt.mpr fits), if_pos short]

/-- R170, R180: a whole frame is judged as its request where its CRC is right. -/
theorem judgeFrame_whole (fits : payload.length ≤ 240) (c0 c1 : Byte) :
    judgeFrame n sensed ([kind, seq, tag, code, byteOf payload.length] ++ payload ++ c0 :: c1 :: rest) =
      if crcBytes (crc16 ([kind, seq, tag, code, byteOf payload.length] ++ payload)) = [c0, c1] then
        judgeRequest { port := n, seq := seq, tag := tag } sensed code payload
      else .badFrame n (some seq) .crc (7 + payload.length) := by
  have length := toNat_byteOf fits
  have whole : ¬ (payload ++ c0 :: c1 :: rest).length < payload.length + 2 := by
    simp only [List.length_append, List.length_cons]
    omega
  show judgeFrame n sensed (kind :: seq :: tag :: code :: byteOf payload.length :: (payload ++ c0 :: c1 :: rest)) = _
  rw [judgeFrame, length, if_neg (Nat.not_lt.mpr fits), if_neg whole, List.take_left, List.drop_left]
  rfl

theorem judgeTransaction_withCrc (fits : payload.length ≤ 240) :
    judgeTransaction n false sensed (withCrc ([0xA5, seq, tag, code, byteOf payload.length] ++ payload) ++ rest) =
      some (judgeRequest { port := n, seq := seq, tag := tag } sensed code payload) := by
  obtain ⟨c0, c1, crc⟩ : ∃ c0 c1, crcBytes (crc16 ([0xA5, seq, tag, code, byteOf payload.length] ++ payload)) = [c0, c1] :=
    ⟨_, _, rfl⟩
  have whole := judgeFrame_whole n sensed 0xA5 seq tag code payload rest fits c0 c1
  rw [if_pos crc] at whole
  rw [withCrc, crc, List.append_assoc, ← whole]
  rfl

end

/-- Settles O10: the payload of a well-formed request fits in a frame, and the parse of its code reads it back. -/
theorem requestFrameReadsBack : Obligations.RequestFrameReadsBack := by
  unfold Obligations.RequestFrameReadsBack
  intro i p sensed formed parts level
  have frame := judgeTransaction_withCrc p.1.port sensed p.1.seq p.1.tag p.2.1 p.2.2 [] (requestParts_length formed parts)
  rw [List.append_nil] at frame
  rw [requestFrame, frame, judgeRequest, requestOf_parts parts level]

/-- Settles O11: a transaction's command is judged by its first byte, a request's by its frame, and a whole frame's by its
code and payload length. -/
theorem transactionsAreClassified : Obligations.TransactionsAreClassified := by
  unfold Obligations.TransactionsAreClassified
  refine fun n sensed inProcess rest => ⟨rfl, rfl, fun b noRequest noCollect => ?_, rfl, fun few => ?_,
    fun seq tag code length long => ⟨min (5 + rest.length) 247, ?_⟩, fun seq tag code length fits short => ?_,
    fun seq tag code payload c0 c1 fits wrong => ?_, fun seq tag code payload fits => ?_⟩
  · exact judgeTransaction_other n sensed rest noRequest noCollect inProcess
  · rw [judgeTransaction_request, judgeFrame_noHeader n sensed 0xA5 rest few]
  · rw [judgeTransaction_request, judgeFrame_long n sensed 0xA5 seq tag code rest long]
  · rw [judgeTransaction_request, judgeFrame_short n sensed 0xA5 seq tag code rest fits short]
  · have whole := judgeFrame_whole n sensed 0xA5 seq tag code payload rest fits c0 c1
    rw [if_neg wrong] at whole
    exact congrArg some whole
  · intro h judged
    have frame : judged = some (judgeRequest h sensed code payload) :=
      judgeTransaction_withCrc n sensed seq tag code payload rest fits
    have reads := requestOf_reads h payload sensed code
    rw [frame, judgeRequest]
    generalize payloadAllowed code.toNat payload.length = allows at reads
    generalize requestOf h sensed code payload = read at reads
    cases reads with
    | unknown => exact ⟨fun _ => rfl, nofun, nofun⟩
    | @known allowed parsed reads =>
      obtain ⟨length, parts⟩ := reads
      refine ⟨nofun, fun refused => ?_, fun isAllowed => ?_⟩
      · obtain rfl := Option.some.inj refused
        obtain rfl := Option.isNone_iff_eq_none.mp (Option.isSome_eq_false_iff.mp length)
        rfl
      · obtain rfl := Option.some.inj isAllowed
        obtain ⟨i, rfl⟩ := Option.isSome_iff_exists.mp length
        have found := parts i rfl
        rw [BitVec.ofNat_toNat, BitVec.setWidth_eq] at found
        exact ⟨i, rfl, found⟩

end Sys2Proof.Machine

/-! PROOFS: what the blocks' operations leave unchanged, the tools for O55 and O60. An operation of the line table, the
pending list, the sequencer, the sessions or the watches is a `BlockChange`: it writes those records alone, no session's
epoch or rights, no other port's session but for what is live in it, and of the interlock table the statuses alone. -/

namespace Sys2Proof.Machine

/-! ### More operations that keep the table (R65) -/

namespace State.KeepsTable

theorem modifyLine (s : State) (l : LineId) (f : Line → Line) : s.KeepsTable (s.modifyLine l f) := of_interlocks rfl

theorem settled (s : State) (l : LineId) (f : Line → Line) : s.KeepsTable (s.modifyLine l f).settleReserved :=
  (modifyLine s l f).trans (settleReserved _)

theorem grantLines (s : State) (agent : Port) (term : Option Nat) (ls : List LineId) :
    s.KeepsTable (s.grantLines agent term ls) := of_interlocks (State.interlocks_grantLines s agent term ls)

theorem inheritLine (s : State) (heir : Port) (l : LineId) (wasMoving : Bool) :
    s.KeepsTable (s.inheritLine heir l wasMoving) := by
  unfold State.inheritLine
  dsimp only
  split_ifs
  · exact (modifyLine s l _).trans (enterChecked _ l)
  · exact modifyLine s l _

theorem driveAll : ∀ (es : List (LineId × Drive)) (s t : State), s.driveAll es = .ok t → s.KeepsTable t
  | [], s, t, driven => by
    cases driven
    exact .refl s
  | (l, d) :: rest, s, t, driven => by
    cases admitted : s.admission l d with
    | none =>
      rw [State.driveAll_admitted admitted] at driven
      exact (driveTo s l d).trans (driveAll rest _ t driven)
    | some slot =>
      rw [State.driveAll_refused admitted] at driven
      cases driven

end State.KeepsTable

/-! ### Changes by the blocks' operations -/

/-- Only the records that operations on lines, claims, runs, sessions and watches write differ. -/
def State.SameButBlocks (s t : State) : Prop :=
  t = { s with lines := t.lines, interlocks := t.interlocks, pendingList := t.pendingList, sessions := t.sessions,
               slots := t.slots, wakeWatches := t.wakeWatches, wakeOut := t.wakeOut, attention := t.attention }

/-- A session record but for what is live in it (R105). -/
def Session.shell (x : Session) : Session := { x with live := none }

/-- The epoch and the rights of a session record (R91). -/
def Session.rights (x : Session) : Session := { x with lastEnd := .none, live := none }

/-- An operation of the blocks, by which no session but `own`'s opens or ends. -/
structure State.BlockChange (own : Port) (s t : State) : Prop where
  frame : s.SameButBlocks t
  rights : ∀ m, (t.session m).rights = (s.session m).rights
  shell : ∀ m, m ≠ own → (t.session m).shell = (s.session m).shell
  opens : ∀ m, m ≠ own → t.isOpen m = s.isOpen m
  table : s.KeepsTable t

theorem State.SameButBlocks.trans {s t u : State} (first : s.SameButBlocks t) (second : t.SameButBlocks u) :
    s.SameButBlocks u := by
  unfold State.SameButBlocks at *
  rw [second, first]

namespace State.BlockChange

variable {own : Port} {s t u : State}

theorem refl (s : State) : s.BlockChange own s := ⟨rfl, fun _ => rfl, fun _ _ => rfl, fun _ _ => rfl, .refl s⟩

theorem trans (first : s.BlockChange own t) (second : t.BlockChange own u) : s.BlockChange own u where
  frame := first.frame.trans second.frame
  rights m := (second.rights m).trans (first.rights m)
  shell m other := (second.shell m other).trans (first.shell m other)
  opens m other := (second.opens m other).trans (first.opens m other)
  table := first.table.trans second.table

/-- An operation that leaves the sessions alone. -/
theorem of_sessions (frame : s.SameButBlocks t) (sessions : t.sessions = s.sessions) (table : s.KeepsTable t) :
    s.BlockChange own t := by
  have session (m : Port) : t.session m = s.session m := by rw [State.session, sessions, State.session]
  refine ⟨frame, fun m => by rw [session], fun m _ => by rw [session], fun m _ => ?_, table⟩
  rw [State.isOpen, State.live, session, State.isOpen, State.live]

theorem of_lines (same : s.SameButLines t) (table : s.KeepsTable t) : s.BlockChange own t := by
  unfold State.SameButLines at same
  refine of_sessions ?_ ?_ table
  · rw [same]
    rfl
  · rw [same]

theorem ite {p : Prop} [Decidable p] (ifTrue : s.BlockChange own t) (ifFalse : s.BlockChange own u) :
    s.BlockChange own (if p then t else u) := by
  split_ifs
  · exact ifTrue
  · exact ifFalse

theorem forLines {op : LineId → State → State} (change : ∀ l (s : State), s.BlockChange own (op l s)) :
    ∀ (ls : List LineId) (s : State), s.BlockChange own (State.forLines op ls s)
  | [], s => refl s
  | l :: ls, s => (change l s).trans (forLines change ls (op l s))

theorem foldl {α : Type} {op : State → α → State} (change : ∀ (s : State) a, s.BlockChange own (op s a)) :
    ∀ (as : List α) (s : State), s.BlockChange own (as.foldl op s)
  | [], s => refl s
  | a :: as, s => (change s a).trans (foldl change as (op s a))

end State.BlockChange

/-! ### Sessions, notices and runs -/

section
variable (own : Port) (s : State) (n : Port) (k : SlotId) (l : LineId)

/-- What is live in a session is not among what the change compares, but whether it is open. -/
theorem State.blockChange_modifyLive (f : Live → Live) : s.BlockChange own (s.modifyLive n f) := by
  have session (m : Port) :
      (s.modifyLive n f).session m = { s.session m with live := ((s.modifyLive n f).session m).live } := by
    rw [State.session_modifyLive]
    split_ifs with same
    · rw [same]
    · rfl
  refine ⟨rfl, fun m => ?_, fun m _ => ?_, fun m _ => State.isOpen_modifyLive s n m f, .of_interlocks rfl⟩
  · rw [session]
    rfl
  · rw [session]
    rfl

theorem State.blockChange_reattend : s.BlockChange own (s.reattend n) := .of_sessions rfl rfl (.of_interlocks rfl)

theorem State.blockChange_modifyNotices (f : Live → Live) : s.BlockChange own (s.modifyNotices n f) :=
  (s.blockChange_modifyLive own n f).trans (State.blockChange_reattend own _ n)

theorem State.blockChange_modifyLine (f : Line → Line) : s.BlockChange own (s.modifyLine l f) :=
  .of_lines (State.modifyLine_same s l f) (.modifyLine s l f)

theorem State.blockChange_setRun (r : Option Run) : s.BlockChange own (s.setRun k r) :=
  .of_sessions rfl rfl (.of_interlocks rfl)

theorem State.blockChange_dropRun : s.BlockChange own (s.dropRun k) := by
  rw [State.dropRun_eq]
  exact .of_sessions rfl rfl (.of_interlocks rfl)

theorem State.blockChange_haltRun (reason : HaltReason) : s.BlockChange own (s.haltRun k reason) := by
  unfold State.haltRun
  cases s.run k with
  | none => exact .refl s
  | some r => exact (s.blockChange_dropRun own k).trans (State.blockChange_modifyNotices own _ r.agent _)

theorem State.blockChange_finishRun : s.BlockChange own (s.finishRun k) := by
  unfold State.finishRun
  cases s.run k with
  | none => exact .refl s
  | some r => exact (s.blockChange_dropRun own k).trans (State.blockChange_modifyNotices own _ r.agent _)

theorem State.blockChange_driveTo (d : Drive) : s.BlockChange own (s.driveTo l d) :=
  .of_lines (State.driveTo_same s l d) (.driveTo s l d)

theorem State.blockChange_beginRelease (reason : FreeReason) (d : Drive) :
    s.BlockChange own (s.beginRelease l reason d) :=
  .of_lines (State.beginRelease_same s l reason d) (.beginRelease s l reason d)

theorem State.blockChange_beginSteps : ∀ (steps : List SeqStep) (n : Nat) (s : State),
    s.BlockChange own (State.beginSteps k steps n s)
  | [], _, s => s.blockChange_finishRun own k
  | st :: rest, n, s => by
    rw [State.beginSteps]
    refine (s.blockChange_setRun own k ((s.run k).map fun r => { r with step := n })).trans ?_
    show State.BlockChange own (s.modifyRun k fun r => { r with step := n }) _
    generalize s.modifyRun k _ = u
    cases u.admission st.line st.drive with
    | some slot => exact u.blockChange_haltRun own k _
    | none =>
      dsimp only
      split_ifs
      · exact blockChange_beginSteps rest (n + 1) u
      · exact u.blockChange_setRun own k _
      · exact (u.blockChange_driveTo own st.line st.drive).trans (State.blockChange_setRun own _ k _)

theorem State.blockChange_endHold : s.BlockChange own (s.endHold k) := by
  unfold State.endHold
  cases s.run k with
  | none => exact .refl s
  | some r => exact State.blockChange_beginSteps own k _ _ s

theorem State.blockChange_beginHold (r : Run) : s.BlockChange own (s.beginHold k r) := by
  unfold State.beginHold
  exact .ite (s.blockChange_endHold own k) (s.blockChange_setRun own k _)

theorem State.blockChange_stepMoveEnded : s.BlockChange own (s.stepMoveEnded k) := by
  unfold State.stepMoveEnded
  cases s.run k with
  | none => exact .refl s
  | some r =>
    dsimp only
    cases r.phase with
    | stepping => exact s.blockChange_beginHold own k r
    | halting cause => exact s.blockChange_haltRun own k _
    | holding deadline => exact .refl s

theorem State.blockChange_faultOnBound : s.BlockChange own (s.faultOnBound k l) := by
  unfold State.faultOnBound
  cases s.run k with
  | none => exact .refl s
  | some r =>
    dsimp only
    cases r.phase with
    | stepping => exact s.blockChange_setRun own k _
    | halting cause => exact .refl s
    | holding deadline => exact s.blockChange_haltRun own k _

/-! ### Grants and the pending list (chapter 4) -/

theorem State.blockChange_grantLines (agent : Port) (term : Option Nat) (ls : List LineId) :
    s.BlockChange own (s.grantLines agent term ls) :=
  .of_lines (s.grantLines_same agent term ls) (.grantLines s agent term ls)

theorem State.blockChange_driveAll {es : List (LineId × Drive)} {t : State} (driven : s.driveAll es = .ok t) :
    s.BlockChange own t := .of_lines (State.driveAll_same es s t driven) (.driveAll es s t driven)

theorem State.blockChange_applyInitial (e : Entry) : s.BlockChange own (s.applyInitial e).1 := by
  unfold State.applyInitial
  cases e.drive with
  | none => exact .refl s
  | some d =>
    dsimp only
    cases driven : s.driveAll (proposals e.target.lines d) with
    | ok t => exact s.blockChange_driveAll own driven
    | error refused => exact .refl s

theorem State.blockChange_pendingList (es : List Entry) : s.BlockChange own { s with pendingList := es } :=
  .of_sessions rfl rfl (.of_interlocks rfl)

theorem State.blockChange_removeEntry_setTicket (k : TicketId) (x : Ticket) :
    s.BlockChange own ((s.removeEntry n k).setTicket n k x) :=
  (s.blockChange_pendingList own _).trans (State.blockChange_modifyNotices own _ n _)

theorem State.blockChange_grantEntry (e : Entry) : s.BlockChange own (s.grantEntry e) :=
  ((s.blockChange_grantLines own _ _ _).trans (State.blockChange_applyInitial own _ e)).trans
    (State.blockChange_removeEntry_setTicket own _ _ _ _)

theorem State.blockChange_scanEntries : ∀ (es : List Entry) (s : State), s.BlockChange own (State.scanEntries es s)
  | [], s => .refl s
  | e :: es, s => by
    rw [State.scanEntries]
    split_ifs
    · exact (s.blockChange_grantEntry own e).trans (blockChange_scanEntries es _)
    · exact blockChange_scanEntries es s

/-! ### Terms, moves and faults (chapter 2) -/

theorem State.blockChange_expire : s.BlockChange own (s.expire l) := by
  have released := s.blockChange_beginRelease own l .termEnded (s.releaseTarget l)
  unfold State.expire
  cases (s.line l).holder with
  | agent n => exact released.trans (State.blockChange_modifyNotices own _ n _)
  | profile => exact released
  | none => exact released

theorem State.blockChange_enterChecked : s.BlockChange own (s.enterChecked l) :=
  .of_lines (State.enterChecked_same s l) (.enterChecked s l)

theorem State.blockChange_completeMove : s.BlockChange own (s.completeMove l) := by
  unfold State.completeMove
  cases (s.line l).state with
  | free => exact .refl s
  | held => exact .refl s
  | releasing => exact (s.blockChange_modifyLine own l _).trans (State.blockChange_scanEntries own _ _)
  | moving =>
    have held (f : Line → Line) : s.BlockChange own ((s.modifyLine l f).enterChecked l) :=
      (s.blockChange_modifyLine own l f).trans (State.blockChange_enterChecked own _ l)
    dsimp only
    split_ifs
    · exact s.blockChange_expire own l
    · split
      · exact held _
      · exact (held _).trans (State.blockChange_stepMoveEnded own _ _)

theorem State.blockChange_settled (f : Line → Line) : s.BlockChange own (s.modifyLine l f).settleReserved :=
  .of_lines ((State.modifyLine_same s l f).trans (State.settleReserved_same _)) (.settled s l f)

theorem State.blockChange_endStage (m : Move) : s.BlockChange own (s.endStage l m) := by
  unfold State.endStage
  split
  · exact s.blockChange_settled own l _
  · exact (s.blockChange_settled own l _).trans (State.blockChange_completeMove own _ l)
  · exact (s.blockChange_settled own l _).trans (State.blockChange_completeMove own _ l)

theorem State.blockChange_tellHolder : s.BlockChange own (s.tellHolder l) := by
  unfold State.tellHolder
  cases (s.line l).holder with
  | agent n => exact s.blockChange_modifyNotices own n _
  | profile => exact .refl s
  | none => exact .refl s

theorem State.blockChange_tellSequencer : s.BlockChange own (s.tellSequencer l) := by
  unfold State.tellSequencer
  cases (s.line l).binding with
  | none => exact .refl s
  | some k => exact s.blockChange_faultOnBound own k l

theorem State.blockChange_fireReadback : s.BlockChange own (s.fireReadback l) :=
  ((s.blockChange_settled own l _).trans (State.blockChange_tellHolder own _ l)).trans
    (State.blockChange_tellSequencer own _ l)

theorem State.blockChange_reachTerm : s.BlockChange own (s.reachTerm l) := by
  unfold State.reachTerm
  cases (s.line l).state with
  | held => exact s.blockChange_expire own l
  | moving => exact s.blockChange_modifyLine own l _
  | free => exact .refl s
  | releasing => exact .refl s

/-! ### The loss of a holder and the end of a session (R38 to R40, R105, R106) -/

theorem State.blockChange_abandon : s.BlockChange own (s.abandon l) := .of_lines (State.abandon_same s l) (.abandon s l)

theorem State.blockChange_haltLost : s.BlockChange own (s.haltLost l) := by
  unfold State.haltLost
  cases (s.line l).binding with
  | none => exact .refl s
  | some k => exact s.blockChange_dropRun own k

theorem State.blockChange_dispose (lost : Port) : s.BlockChange own (State.dispose lost l s) := by
  have loosened := (s.blockChange_haltLost own l).trans (State.blockChange_abandon own _ l)
  obtain other | ⟨heir, wasMoving, inherited⟩ | parked := s.dispose_cases lost l
  · rw [other]
    exact .refl s
  · rw [inherited]
    exact (loosened.trans (.of_lines (State.inheritLine_same _ heir l wasMoving) (.inheritLine _ heir l wasMoving))).trans
      (State.blockChange_modifyNotices own _ heir _)
  · rw [parked]
    exact loosened.trans (State.blockChange_beginRelease own _ l _ _)

theorem State.blockChange_disposeAll (lost : Port) : s.BlockChange own (s.disposeAll lost) :=
  .forLines (fun l u => u.blockChange_dispose own l lost) allLines s

theorem State.blockChange_tellLoss (cause : EndCause) : s.BlockChange own (s.tellLoss n cause) :=
  .foldl (fun u m => .ite (u.blockChange_modifyNotices own m _) (.refl u)) _ s

/-- R105: only the record that ends has another end cause, and is closed. -/
theorem State.blockChange_closeRecord (cause : EndCause) : s.BlockChange n (s.closeRecord n cause) := by
  have closed (x : Session) (rights : x.rights = (s.session n).rights) : s.BlockChange n (s.setSession n x) := by
    refine ⟨rfl, fun m => ?_, fun m other => ?_, fun m other => ?_, .of_interlocks rfl⟩
    · rw [State.session_setSession]
      split_ifs with same
      · rw [same, rights]
      · rfl
    · rw [State.session_setSession, if_neg other]
    · rw [State.isOpen_setSession, if_neg other]
  exact (closed { s.session n with lastEnd := cause, live := none } rfl).trans (State.blockChange_reattend n _ n)

theorem State.blockChange_ending : s.BlockChange own (s.ending n) := .of_sessions rfl rfl (.of_interlocks rfl)

theorem State.blockChange_endSession (cause : EndCause) : s.BlockChange n (s.endSession n cause) := by
  by_cases isOpen : s.isOpen n = true
  · rw [State.endSession_of_open isOpen]
    have lost := (s.blockChange_disposeAll n n).trans (State.blockChange_ending n _ n)
    exact (lost.trans (State.blockChange_tellLoss n _ n cause)).trans (State.blockChange_closeRecord _ n cause)
  · rw [State.endSession, if_neg isOpen]
    exact .refl s

end

/-! ### Levels, filters and deadlines (R76, R100, R131, R145) -/

section
variable (own : Port) (s : State) (n : Port) (l : LineId)

theorem State.blockChange_observe (level : Level) : s.BlockChange own (s.observe l level) := by
  have watched (u : State) : u.BlockChange own ((List.finRange 3).foldl (fun u n => u.watchLine l level n) u) :=
    .foldl (fun u n => u.blockChange_modifyNotices own n _) _ u
  have woken (u : State) : u.BlockChange own (u.wakeLine l level) := .of_sessions rfl rfl (.of_interlocks rfl)
  exact ((s.blockChange_modifyLine own l _).trans (watched _)).trans (woken _)

theorem State.blockChange_takeWake (k : Nat) (w : WakeWatch) : s.BlockChange own (s.takeWake k w) := by
  unfold State.takeWake
  exact .ite (.of_sessions rfl rfl (.of_interlocks rfl)) (.of_sessions rfl rfl (.of_interlocks rfl))

theorem State.blockChange_passPeriod : s.BlockChange n (s.passPeriod n) := by
  unfold State.passPeriod
  dsimp only
  split
  · exact .refl s
  · split_ifs
    · exact s.blockChange_modifyLive n n _
    · exact s.blockChange_modifyLive n n _
    · exact s.blockChange_endSession n .keepalive

end

end Sys2Proof.Machine

/-! PROOFS: what each request leaves unchanged, by its kind, and the events of lines and timers (O55). -/

namespace Sys2Proof.Machine

/-! ### What a request may write (R92, R160, R180) -/

/-- The requests by what they may write beside the blocks' records and their port. -/
inductive RequestKind where
  | plain | opening | table | store | flash | restart

/-- The kind of a request. -/
def requestKind : Instr → RequestKind
  | .openSession .. => .opening
  | .addInterlock .. | .dropInterlock .. => .table
  | .storeSequence .. | .dropSequence .. => .store
  | .profileRead .. | .profileErase _ | .profileWrite .. | .profileCommit _ => .flash
  | .restart _ => .restart
  | _ => .plain

/-- Nothing differs but what some request writes. -/
def State.SameButRequest (s t : State) : Prop :=
  t = { s with lines := t.lines, interlocks := t.interlocks, pendingList := t.pendingList, sessions := t.sessions,
               slots := t.slots, wakeWatches := t.wakeWatches, wakeOut := t.wakeOut, attention := t.attention,
               store := t.store, loader := t.loader, presence := t.presence, ports := t.ports }

/-- A change by a request of this kind on port `own`. -/
structure State.RequestChange (own : Port) (kind : RequestKind) (s t : State) : Prop where
  frame : s.SameButRequest t
  ports : ∀ m, m ≠ own → t.port m = s.port m
  shell : kind ≠ .restart → ∀ m, m ≠ own → (t.session m).shell = (s.session m).shell
  opens : kind ≠ .restart → ∀ m, m ≠ own → t.isOpen m = s.isOpen m
  loader : kind ≠ .restart → kind ≠ .flash → t.loader = s.loader
  store : kind ≠ .restart → kind ≠ .store → t.store = s.store
  table : kind ≠ .restart → kind ≠ .table → s.KeepsTable t
  presence : kind ≠ .opening → t.presence = s.presence

theorem State.SameButRequest.trans {s t u : State} (first : s.SameButRequest t) (second : t.SameButRequest u) :
    s.SameButRequest u := by
  unfold State.SameButRequest at *
  rw [second, first]

section
variable {own : Port} {kind : RequestKind} {s t u : State}

theorem State.RequestChange.trans (first : s.RequestChange own kind t) (second : t.RequestChange own kind u) :
    s.RequestChange own kind u where
  frame := first.frame.trans second.frame
  ports m other := (second.ports m other).trans (first.ports m other)
  shell notRestart m other := (second.shell notRestart m other).trans (first.shell notRestart m other)
  opens notRestart m other := (second.opens notRestart m other).trans (first.opens notRestart m other)
  loader notRestart notFlash := (second.loader notRestart notFlash).trans (first.loader notRestart notFlash)
  store notRestart notStore := (second.store notRestart notStore).trans (first.store notRestart notStore)
  table notRestart notTable := (first.table notRestart notTable).trans (second.table notRestart notTable)
  presence notOpening := (second.presence notOpening).trans (first.presence notOpening)

theorem State.BlockChange.fields (change : s.BlockChange own t) : t.ports = s.ports ∧ t.loader = s.loader ∧
    t.store = s.store ∧ t.presence = s.presence ∧ t.flash = s.flash := by
  have frame := change.frame
  unfold State.SameButBlocks at frame
  rw [frame]
  exact ⟨rfl, rfl, rfl, rfl, rfl⟩

theorem State.BlockChange.sameButRequest (change : s.BlockChange own t) : s.SameButRequest t := by
  have frame := change.frame
  unfold State.SameButBlocks at frame
  rw [frame]
  rfl

theorem State.BlockChange.request (change : s.BlockChange own t) : s.RequestChange own kind t := by
  obtain ⟨ports, loader, store, presence, -⟩ := change.fields
  exact ⟨change.sameButRequest, fun m _ => by rw [State.port, ports, State.port], fun _ => change.shell,
    fun _ => change.opens, fun _ _ => loader, fun _ _ => store, fun _ _ => change.table, fun _ => presence⟩

theorem State.RequestChange.modifyPort (s : State) (f : PortRecord → PortRecord) :
    s.RequestChange own kind (s.modifyPort own f) :=
  ⟨rfl, fun m other => (s.port_modifyPort own m f).trans (if_neg other), fun _ _ _ => rfl, fun _ _ _ => rfl,
    fun _ _ => rfl, fun _ _ => rfl, fun _ _ => .of_interlocks rfl, fun _ => rfl⟩

end

/-! ### What a decision writes (R180) -/

/-- A decision in state `u` on a request of this kind: it is answered at once in a state that the request may leave, or
its flash work, which keeps to its slot, begins where no other is in progress (R160). -/
inductive Verdict.Serves (own : Port) (kind : RequestKind) (u : State) : Verdict → Prop
  | done {t : State} {r : Reply} (change : u.RequestChange own kind t) (ports : t.ports = u.ports)
      (flashOp : t.loader.flashOp = u.loader.flashOp) : Serves own kind u (.done t r)
  | accepted {t : State} {op : FlashOp} (change : u.RequestChange own kind t) (ports : t.ports = u.ports)
      (idle : u.loader.flashOp = none) (begins : t.loader.flashOp = some op) (port : op.port = own)
      (inSlot : op.work.inSlot = true) : Serves own kind u (.accepted t)

section
variable {own : Port} {kind : RequestKind} {s t u : State}

theorem State.BlockChange.serves (change : u.BlockChange own t) {r : Reply} : (Verdict.done t r).Serves own kind u := by
  obtain ⟨ports, loader, -⟩ := change.fields
  exact .done change.request ports (by rw [loader])

theorem Verdict.serves_refl (u : State) {r : Reply} : (Verdict.done u r).Serves own kind u :=
  State.BlockChange.serves (.refl u)

/-- A decision may be preceded by a change of the blocks (the keepalive of R93). -/
theorem Verdict.Serves.after {v : Verdict} (change : s.BlockChange own u) (served : v.Serves own kind u) :
    v.Serves own kind s := by
  obtain ⟨samePorts, sameLoader, -⟩ := change.fields
  cases served with
  | done next ports flashOp =>
    exact .done (change.request.trans next) (ports.trans samePorts) (by rw [flashOp, sameLoader])
  | accepted next ports idle begins port inSlot =>
    exact .accepted (change.request.trans next) (ports.trans samePorts) (by rw [← sameLoader, idle]) begins port inSlot

variable {α : Type} {h : Header} {body : α → State → Verdict}

theorem authorise_serves {right : Right} {args : Option α} (serves : ∀ a ∈ args, (body a u).Serves own kind u) :
    (authorise h right args body u).Serves own kind u := by
  unfold authorise
  split_ifs
  · cases args with
    | none => exact Verdict.serves_refl u
    | some a => exact serves a rfl
  · exact Verdict.serves_refl u

/-- A request that its own decision serves is served after the common checks. -/
theorem checked_serves {service : Service} {rule : SessionRule} {right : Right} {args : Option α}
    (serves : ∀ a ∈ args, ∀ u : State, (body a u).Serves h.port kind u) (u : State) :
    (checked h service rule right args body u).Serves h.port kind u := by
  have decided (t : State) : (authorise h right args body t).Serves h.port kind t :=
    authorise_serves fun a listed => serves a listed t
  have heard : (authorise h right args body (u.keepalive h.port)).Serves h.port kind u :=
    (decided _).after (u.blockChange_modifyLive h.port h.port _)
  unfold checked
  cases service.refusal u.partState with
  | some o => exact Verdict.serves_refl u
  | none =>
    cases rule with
    | exempt => exact decided u
    | exemptKeepalive =>
      dsimp only
      split_ifs
      · exact heard
      · exact decided u
    | required =>
      dsimp only
      split_ifs
      · exact heard
      · exact Verdict.serves_refl u
      · exact Verdict.serves_refl u

theorem Verdict.Serves.settle {v : Verdict} (served : v.Serves h.port kind u) (discarded : Bool) :
    u.RequestChange h.port kind (v.settle h discarded) := by
  cases served with
  | done change _ _ =>
    rw [Verdict.settle_done]
    exact change.trans (.modifyPort _ _)
  | accepted change _ _ _ _ _ =>
    rw [Verdict.settle]
    exact change.trans (.modifyPort _ _)

theorem State.requestChange_serve (s : State) {length : Nat} {judge : State → Verdict}
    (serves : ∀ u : State, (judge u).Serves h.port kind u) : s.RequestChange h.port kind (s.serve h length judge) := by
  have same : s.RequestChange h.port kind s := (State.BlockChange.refl s).request
  unfold State.serve
  split_ifs
  · exact .modifyPort s _
  · exact .trans (.modifyPort s _) ((serves _).settle _)
  · exact same

end

/-! ### The decisions of the requests -/

section
variable (n : Port) (s : State)

theorem State.requestChange_openRecord (period limit : Nat) (mask : AttentionMask) :
    s.RequestChange n .opening (s.openRecord n period limit mask) := by
  have session (m : Port) (other : m ≠ n) : (s.openRecord n period limit mask).session m = s.session m :=
    (Table.get_set s.sessions n m _).trans (if_neg other)
  refine ⟨rfl, fun _ _ => rfl, fun _ m other => by rw [session m other], fun _ m other => ?_, fun _ _ => rfl,
    fun _ _ => rfl, fun _ _ => .of_interlocks rfl, fun opening => absurd rfl opening⟩
  rw [State.isOpen, State.live, session m other, State.isOpen, State.live]

theorem decideOpen_serves (a : OpenArgs) : (decideOpen n a s).Serves n .opening s := by
  unfold decideOpen
  split_ifs
  · exact Verdict.serves_refl s
  · exact .after (s.blockChange_endSession n .reopened) (.done (State.requestChange_openRecord n _ _ _ _) rfl rfl)

theorem decideClose_serves : (Verdict.done (s.endSession n .closed)
    (Reply.of .ok (.closed (s.session n).epoch))).Serves n .plain s :=
  (s.blockChange_endSession n .closed).serves

theorem State.grantNow_serves (t : Target) (a : ClaimArgs) : (s.grantNow n t a).Serves n .plain s := by
  have granted := s.blockChange_grantLines n n a.term t.lines
  unfold State.grantNow
  dsimp only
  cases a.drive with
  | none => exact granted.serves
  | some d =>
    dsimp only
    cases driven : (s.grantLines n a.term t.lines).driveAll (proposals t.lines d) with
    | ok u => exact (granted.trans (State.blockChange_driveAll n _ driven)).serves
    | error refused => exact Verdict.serves_refl s

theorem State.claimWaits_serves (t : Target) (a : ClaimArgs) : (s.claimWaits n t a).Serves n .plain s := by
  unfold State.claimWaits
  cases s.idleTicket n with
  | none => exact Verdict.serves_refl s
  | some k => exact ((s.blockChange_pendingList n _).trans (State.blockChange_modifyNotices n _ n _)).serves

theorem decideClaim_serves (a : ClaimArgs) : (decideClaim n a s).Serves n .plain s := by
  unfold decideClaim
  cases s.resolve a.target with
  | none => exact Verdict.serves_refl s
  | some t =>
    dsimp only
    cases s.firstRefusal t.lines (claimTests n) with
    | some r => exact Verdict.serves_refl s
    | none =>
      dsimp only
      split_ifs
      · exact s.grantNow_serves n t a
      · exact Verdict.serves_refl s
      · exact s.claimWaits_serves n t a

theorem decideCancel_serves (k : TicketId) : (decideCancel n k s).Serves n .plain s := by
  unfold decideCancel
  cases s.ticket n k with
  | idle => exact Verdict.serves_refl s
  | waiting t => exact (s.blockChange_removeEntry_setTicket n n k .idle).serves
  | granted t time applied => exact Verdict.serves_refl s
  | expired t time => exact (s.blockChange_modifyNotices n n _).serves

theorem decideRelease_serves (target : NamedTarget) : (decideRelease n target s).Serves n .plain s := by
  unfold decideRelease
  cases s.resolve target with
  | none => exact Verdict.serves_refl s
  | some t =>
    dsimp only
    cases s.firstRefusal t.lines [notHolderTest n, lineMovingTest, inSequenceTest] with
    | some r => exact Verdict.serves_refl s
    | none =>
      exact State.BlockChange.serves
        (.forLines (fun l u => u.blockChange_beginRelease n l .released (u.releaseTarget l)) _ s)

theorem decideSet_serves (entries : List (LineId × Drive)) : (decideSet n entries s).Serves n .plain s := by
  unfold decideSet
  split
  · exact Verdict.serves_refl s
  · split
    · next u driven => exact (s.blockChange_driveAll n driven).serves
    · exact Verdict.serves_refl s

theorem decideSetHeir_serves (a : LineId × Option Port) : (decideSetHeir n a s).Serves n .plain s := by
  unfold decideSetHeir
  split_ifs
  · exact (s.blockChange_modifyLine n a.1 _).serves
  · exact Verdict.serves_refl s

theorem decideExtend_serves (a : NamedTarget × Option Nat) : (decideExtend n a s).Serves n .plain s := by
  unfold decideExtend
  cases s.resolve a.1 with
  | none => exact Verdict.serves_refl s
  | some t =>
    dsimp only
    cases s.firstRefusal t.lines [notHolderTest n, inSequenceTest] with
    | some r => exact Verdict.serves_refl s
    | none => exact State.BlockChange.serves (.forLines (fun l u => u.blockChange_modifyLine n l _) _ s)

theorem decideClearFault_serves (l : LineId) : (decideClearFault n l s).Serves n .plain s := by
  have restored (prior : Drive) : s.BlockChange n (s.restore l prior) :=
    (s.blockChange_modifyLine n l _).trans (State.blockChange_driveTo n _ l prior)
  unfold decideClearFault
  split_ifs
  · split
    · split
      · exact Verdict.serves_refl s
      · split
        · exact Verdict.serves_refl s
        · exact (restored _).serves
    · exact Verdict.serves_refl s
    · exact Verdict.serves_refl s
  · exact Verdict.serves_refl s

theorem State.requestChange_setRule (k : RuleSlot) (x : InterlockSlot) : s.RequestChange n .table (s.setRule k x) :=
  ⟨rfl, fun _ _ => rfl, fun _ _ _ => rfl, fun _ _ _ => rfl, fun _ _ => rfl, fun _ _ => rfl,
    fun _ table => absurd rfl table, fun _ => rfl⟩

theorem decideAddInterlock_serves (r : Rule) : (decideAddInterlock n r s).Serves n .table s := by
  unfold decideAddInterlock
  split
  · exact Verdict.serves_refl s
  · split_ifs
    · exact Verdict.serves_refl s
    · exact .done (s.requestChange_setRule n _ _) rfl rfl

theorem decideDropInterlock_serves (k : RuleSlot) : (decideDropInterlock k s).Serves n .table s := by
  unfold decideDropInterlock
  split
  · exact Verdict.serves_refl s
  · exact Verdict.serves_refl s
  · exact .done (s.requestChange_setRule n _ _) rfl rfl

theorem State.requestChange_setSequence (q : SeqNumber) (x : Option Sequence) :
    s.RequestChange n .store (s.setSequence q x) :=
  ⟨rfl, fun _ _ => rfl, fun _ _ _ => rfl, fun _ _ _ => rfl, fun _ _ => rfl, fun _ store => absurd rfl store,
    fun _ _ => .of_interlocks rfl, fun _ => rfl⟩

theorem decideStore_serves (a : SeqNumber × List SeqStep) : (decideStore a s).Serves n .store s := by
  unfold decideStore
  split_ifs
  · exact Verdict.serves_refl s
  · exact Verdict.serves_refl s
  · exact .done (s.requestChange_setSequence n _ _) rfl rfl

theorem decideDropSequence_serves (q : SeqNumber) : (decideDropSequence q s).Serves n .store s := by
  unfold decideDropSequence
  split
  · exact Verdict.serves_refl s
  · exact Verdict.serves_refl s
  · split_ifs
    · exact Verdict.serves_refl s
    · exact .done (s.requestChange_setSequence n _ _) rfl rfl

theorem State.blockChange_startRun (q : SeqNumber) (k : SlotId) : s.BlockChange n (s.startRun n q k) := by
  have bound (ls : List LineId) (u : State) : u.BlockChange n (u.bind k ls) :=
    .forLines (fun l t => t.blockChange_modifyLine n l _) ls u
  exact ((s.blockChange_setRun n k _).trans (bound _ _)).trans (State.blockChange_beginSteps n k _ 1 _)

theorem decideRun_serves (q : SeqNumber) : (decideRun n q s).Serves n .plain s := by
  unfold decideRun
  cases s.sequence q with
  | none => exact Verdict.serves_refl s
  | some x =>
    dsimp only
    cases s.idleSlot with
    | none => exact Verdict.serves_refl s
    | some k =>
      dsimp only
      cases s.firstRefusal (s.lineSet q) (runTests n) with
      | some r => exact Verdict.serves_refl s
      | none => exact (s.blockChange_startRun n q k).serves

theorem decideAbort_serves (k : SlotId) : (decideAbort n k s).Serves n .plain s := by
  unfold decideAbort
  split
  · exact Verdict.serves_refl s
  · split_ifs
    · split
      · exact (s.blockChange_setRun n k _).serves
      · exact (s.blockChange_haltRun n k _).serves
      · exact Verdict.serves_refl s
    · exact Verdict.serves_refl s

theorem decideAddWatch_serves (a : WatchArgs) : (decideAddWatch n a s).Serves n .plain s := by
  unfold decideAddWatch
  cases s.freeWatch n with
  | none => exact Verdict.serves_refl s
  | some id => exact (s.blockChange_modifyLive n n _).serves

theorem decideDropWatch_serves (id : WatchId) : (decideDropWatch n id s).Serves n .plain s := by
  unfold decideDropWatch
  cases s.watch n id with
  | none => exact Verdict.serves_refl s
  | some w => exact (s.blockChange_modifyNotices n n _).serves

theorem State.requestChange_flash (f : Loader → Loader) : s.RequestChange n .flash (s.modifyLoader f) :=
  ⟨rfl, fun _ _ => rfl, fun _ _ _ => rfl, fun _ _ _ => rfl, fun _ flash => absurd rfl flash, fun _ _ => rfl,
    fun _ _ => .of_interlocks rfl, fun _ => rfl⟩

theorem decideFlash_serves {work : FlashWork} (inSlot : work.inSlot = true) :
    (decideFlash n work s).Serves n .flash s := by
  unfold decideFlash
  cases idle : s.loader.flashOp with
  | some op => exact Verdict.serves_refl s
  | none => exact .accepted (s.requestChange_flash n _) rfl idle rfl rfl inSlot

theorem State.requestChange_acceptRestart : s.RequestChange n .restart s.acceptRestart := by
  obtain ⟨-, -, -, -, -, -, -, -, ports, -, presence⟩ := s.acceptRestart_fields
  obtain ⟨u, accepted, frame⟩ : ∃ u : State, s.acceptRestart = u.settleReserved ∧ s.SameButRequest u := ⟨_, rfl, rfl⟩
  have settled : u.BlockChange n u.settleReserved := .of_lines (State.settleReserved_same u) (.settleReserved u)
  refine ⟨?_, fun m _ => by rw [State.port, ports, State.port], nofun, nofun, nofun, nofun, nofun, fun _ => presence⟩
  rw [accepted]
  exact frame.trans settled.sameButRequest

theorem decideRestart_serves : (decideRestart s).Serves n .restart s := by
  unfold decideRestart
  cases s.loader.flashOp with
  | some op => exact Verdict.serves_refl s
  | none =>
    obtain ⟨-, -, -, -, -, loader, -, -, ports, -⟩ := s.acceptRestart_fields
    exact .done (s.requestChange_acceptRestart n) ports (by rw [loader])

end

/-! ### Every request is served so (R180) -/

theorem readArgs_inSlot {slot length : Byte} {offset : BitVec 16} {work : FlashWork}
    (args : readArgs slot offset length = some work) : work.inSlot = true := by
  obtain ⟨f, -, args⟩ := Option.bind_eq_some_iff.mp args
  obtain ⟨o, -, args⟩ := Option.bind_eq_some_iff.mp args
  obtain ⟨n, -, args⟩ := Option.bind_eq_some_iff.mp args
  obtain ⟨fits, work⟩ := Option.ite_none_right_eq_some.mp args
  obtain rfl := Option.some.inj work
  exact decide_eq_true fits

theorem writeArgs_inSlot {offset : BitVec 16} {data : List Byte} {work : FlashWork}
    (args : writeArgs offset data = some work) : work.inSlot = true := by
  obtain ⟨o, -, args⟩ := Option.bind_eq_some_iff.mp args
  obtain ⟨n, count, args⟩ := Option.bind_eq_some_iff.mp args
  obtain ⟨fits, work⟩ := Option.ite_none_right_eq_some.mp args
  obtain rfl := Option.some.inj work
  have length : n = data.length := by
    rw [within, Option.ite_none_right_eq_some] at count
    exact (Option.some.inj count.2).symm
  rw [length] at fits
  exact decide_eq_true fits

/-- A request is taken and decided as one of its kind. -/
theorem exec_serves {i : Instr} {c : Checks} (request : requestChecks i = some c) (s : State) :
    ∃ (length : Nat) (judge : State → Verdict), (∀ u : State, (judge u).Serves c.header.port (requestKind i) u) ∧
      exec i s = .next ((s.sensedBy i).serve c.header length judge) := by
  cases i
  case openSession h p l m v =>
    cases request
    exact ⟨_, _, checked_serves fun a _ u => decideOpen_serves h.port u a, rfl⟩
  case closeSession h =>
    cases request
    exact ⟨_, _, checked_serves fun _ _ u => decideClose_serves h.port u, rfl⟩
  case setMask h m =>
    cases request
    exact ⟨_, _, checked_serves fun _ _ u => (u.blockChange_modifyNotices h.port h.port _).serves, rfl⟩
  case claim h t p e d a =>
    cases request
    exact ⟨_, _, checked_serves fun a _ u => decideClaim_serves h.port u a, rfl⟩
  case cancel h k =>
    cases request
    exact ⟨_, _, checked_serves fun k _ u => decideCancel_serves h.port u k, rfl⟩
  case release h t =>
    cases request
    exact ⟨_, _, checked_serves fun t _ u => decideRelease_serves h.port u t, rfl⟩
  case setDrives h es =>
    cases request
    exact ⟨_, _, checked_serves fun es _ u => decideSet_serves h.port u es, rfl⟩
  case setHeir h l a =>
    cases request
    exact ⟨_, _, checked_serves fun a _ u => decideSetHeir_serves h.port u a, rfl⟩
  case extend h t e =>
    cases request
    exact ⟨_, _, checked_serves fun a _ u => decideExtend_serves h.port u a, rfl⟩
  case clearFault h l =>
    cases request
    exact ⟨_, _, checked_serves fun l _ u => decideClearFault_serves h.port u l, rfl⟩
  case addInterlock h x a y b =>
    cases request
    exact ⟨_, _, checked_serves fun r _ u => decideAddInterlock_serves h.port u r, rfl⟩
  case dropInterlock h k =>
    cases request
    exact ⟨_, _, checked_serves fun k _ u => decideDropInterlock_serves h.port u k, rfl⟩
  case storeSequence h q ss =>
    cases request
    exact ⟨_, _, checked_serves fun a _ u => decideStore_serves h.port u a, rfl⟩
  case dropSequence h q =>
    cases request
    exact ⟨_, _, checked_serves fun q _ u => decideDropSequence_serves h.port u q, rfl⟩
  case runSequence h q =>
    cases request
    exact ⟨_, _, checked_serves fun q _ u => decideRun_serves h.port u q, rfl⟩
  case abortRun h k =>
    cases request
    exact ⟨_, _, checked_serves fun k _ u => decideAbort_serves h.port u k, rfl⟩
  case addWatch h l e f a =>
    cases request
    exact ⟨_, _, checked_serves fun a _ u => decideAddWatch_serves h.port u a, rfl⟩
  case dropWatch h k =>
    cases request
    exact ⟨_, _, checked_serves fun k _ u => decideDropWatch_serves h.port u k, rfl⟩
  case ack h ids =>
    cases request
    exact ⟨_, _, checked_serves fun _ _ u => (u.blockChange_modifyNotices h.port h.port _).serves, rfl⟩
  case profileRead h f o n =>
    cases request
    exact ⟨_, _, checked_serves fun _ args u => decideFlash_serves h.port u (readArgs_inSlot args), rfl⟩
  case profileErase h =>
    cases request
    refine ⟨_, _, checked_serves fun _ args u => decideFlash_serves h.port u ?_, rfl⟩
    obtain rfl := Option.some.inj args
    rfl
  case profileWrite h o d =>
    cases request
    exact ⟨_, _, checked_serves fun _ args u => decideFlash_serves h.port u (writeArgs_inSlot args), rfl⟩
  case profileCommit h =>
    cases request
    refine ⟨_, _, checked_serves fun _ args u => decideFlash_serves h.port u ?_, rfl⟩
    obtain rfl := Option.some.inj args
    rfl
  case restart h =>
    cases request
    exact ⟨_, _, checked_serves fun _ _ u => decideRestart_serves h.port u, rfl⟩
  all_goals cases request
  all_goals exact ⟨_, _, checked_serves fun _ _ u => Verdict.serves_refl u, rfl⟩

end Sys2Proof.Machine

/-! PROOFS: what requests and the events of lines and timers leave unchanged (O55). -/

namespace Sys2Proof.Machine

/-! ### The kinds of the requests -/

section
variable {i : Instr}

theorem requestKind_opening (kind : requestKind i = .opening) : ∃ h p m a v, i = .openSession h p m a v := by
  cases i
  case openSession h p m a v => exact ⟨h, p, m, a, v, rfl⟩
  all_goals cases kind

theorem requestKind_restart (kind : requestKind i = .restart) : ∃ h, i = .restart h := by
  cases i
  case restart h => exact ⟨h, rfl⟩
  all_goals cases kind

theorem requestKind_table (kind : requestKind i = .table) :
    (∃ h x a y b, i = .addInterlock h x a y b) ∨ ∃ h k, i = .dropInterlock h k := by
  cases i
  case addInterlock h x a y b => exact .inl ⟨h, x, a, y, b, rfl⟩
  case dropInterlock h k => exact .inr ⟨h, k, rfl⟩
  all_goals cases kind

theorem requestKind_store (kind : requestKind i = .store) :
    (∃ h q ss, i = .storeSequence h q ss) ∨ ∃ h q, i = .dropSequence h q := by
  cases i
  case storeSequence h q ss => exact .inl ⟨h, q, ss, rfl⟩
  case dropSequence h q => exact .inr ⟨h, q, rfl⟩
  all_goals cases kind

theorem requestKind_flash (kind : requestKind i = .flash) : (∃ h f o n, i = .profileRead h f o n) ∨
    (∃ h o d, i = .profileWrite h o d) ∨ (∃ h, i = .profileErase h) ∨ ∃ h, i = .profileCommit h := by
  cases i
  case profileRead h f o n => exact .inl ⟨h, f, o, n, rfl⟩
  case profileWrite h o d => exact .inr (.inl ⟨h, o, d, rfl⟩)
  case profileErase h => exact .inr (.inr (.inl ⟨h, rfl⟩))
  case profileCommit h => exact .inr (.inr (.inr ⟨h, rfl⟩))
  all_goals cases kind

end

/-! ### What a request leaves -/

section
variable {s t : State}

theorem State.KeepsTable.slots (table : s.KeepsTable t) (k : RuleSlot) : (s.ruleAt k = .empty ↔ t.ruleAt k = .empty) ∧
    ∀ r st o, s.ruleAt k = .rule r st o → ∃ st', t.ruleAt k = .rule r st' o := by
  refine ⟨?_, fun r st o rule => ?_⟩
  · rw [← InterlockSlot.content_eq_none_iff, ← InterlockSlot.content_eq_none_iff, table k]
  · rw [← InterlockSlot.content_eq_some_iff, table k, rule]
    rfl

/-- OPEN's command writes the presence input that it has sensed (log 2). -/
theorem State.requestChange_sensedBy (s : State) (i : Instr) (own : Port) :
    s.RequestChange own (requestKind i) (s.sensedBy i) := by
  cases i
  case openSession h p m a v =>
    exact ⟨rfl, fun _ _ => rfl, fun _ _ _ => rfl, fun _ _ _ => rfl, fun _ _ => rfl, fun _ _ => rfl,
      fun _ _ => .of_interlocks rfl, fun opening => absurd rfl opening⟩
  all_goals exact (State.BlockChange.refl s).request

theorem exec_requestChange {i : Instr} {c : Checks} (request : requestChecks i = some c) (ran : exec i s = .next t) :
    s.RequestChange c.header.port (requestKind i) t := by
  obtain ⟨length, judge, serves, served⟩ := exec_serves request s
  obtain rfl := Host.Outcome.next.inj (ran.symm.trans served)
  exact (s.requestChange_sensedBy i c.header.port).trans (State.requestChange_serve _ serves)

theorem State.SameButRequest.fields (frame : s.SameButRequest t) : t.lineTime = s.lineTime ∧ t.resetLow = s.resetLow ∧
    t.flash = s.flash ∧ t.choices = s.choices ∧ t.pending = s.pending ∧ t.groups = s.groups := by
  unfold State.SameButRequest at frame
  rw [frame]
  exact ⟨rfl, rfl, rfl, rfl, rfl, rfl⟩

end

/-! ### The events of lines and timers -/

section
variable {s t : State} (own : Port)

theorem exec_observedLevelChange_blockChange {l : LineId} {v : Level}
    (ran : exec (.observedLevelChange l v) s = .next t) : s.BlockChange own t := by
  obtain rfl := Host.Outcome.next.inj ran
  exact .ite (.refl s) (s.blockChange_observe own l v)

theorem exec_stageEnd_blockChange {l : LineId} (ran : exec (.stageEnd l) s = .next t) : s.BlockChange own t := by
  obtain rfl := Host.Outcome.next.inj ran
  split
  · exact .refl s
  · exact s.blockChange_endStage own l _

theorem exec_readbackDeadline_blockChange {l : LineId} (ran : exec (.readbackDeadline l) s = .next t) :
    s.BlockChange own t := by
  obtain rfl := Host.Outcome.next.inj ran
  exact .ite (s.blockChange_fireReadback own l) (.refl s)

theorem exec_termDeadline_blockChange {l : LineId} (ran : exec (.termDeadline l) s = .next t) :
    s.BlockChange own t := by
  obtain rfl := Host.Outcome.next.inj ran
  exact .ite (s.blockChange_reachTerm own l) (.refl s)

theorem exec_patienceDeadline_blockChange {n : Port} {k : TicketId} (ran : exec (.patienceDeadline n k) s = .next t) :
    s.BlockChange own t := by
  obtain rfl := Host.Outcome.next.inj ran
  split
  · exact .refl s
  · exact s.blockChange_removeEntry_setTicket own _ _ _

theorem exec_periodDeadline_blockChange {n : Port} (ran : exec (.periodDeadline n) s = .next t) :
    s.BlockChange n t := by
  obtain rfl := Host.Outcome.next.inj ran
  exact .ite (s.blockChange_passPeriod n) (.refl s)

theorem exec_holdDeadline_blockChange {k : SlotId} (ran : exec (.holdDeadline k) s = .next t) :
    s.BlockChange own t := by
  obtain rfl := Host.Outcome.next.inj ran
  exact .ite (s.blockChange_endHold own k) (.refl s)

theorem exec_filterDeadline_blockChange {n : Port} {k : WatchId} (ran : exec (.filterDeadline n k) s = .next t) :
    s.BlockChange own t := by
  obtain rfl := Host.Outcome.next.inj ran
  split
  · exact .refl s
  · exact s.blockChange_modifyNotices own n _

theorem exec_wakeFilterDeadline_blockChange {k : Fin 8} (ran : exec (.wakeFilterDeadline k) s = .next t) :
    s.BlockChange own t := by
  obtain rfl := Host.Outcome.next.inj ran
  split
  · exact .refl s
  · exact s.blockChange_takeWake own _ _

end

theorem State.SameButBlocks.fields {s t : State} (frame : s.SameButBlocks t) : t.lineTime = s.lineTime ∧
    t.resetLow = s.resetLow ∧ t.flash = s.flash ∧ t.choices = s.choices ∧ t.pending = s.pending ∧
    t.groups = s.groups ∧ t.store = s.store ∧ t.presence = s.presence ∧ t.loader = s.loader ∧ t.ports = s.ports := by
  unfold State.SameButBlocks at frame
  rw [frame]
  exact ⟨rfl, rfl, rfl, rfl, rfl, rfl, rfl, rfl, rfl, rfl⟩

theorem Session.fields_of_rights {x y : Session} (same : x.rights = y.rights) : x.epoch = y.epoch ∧
    x.configure = y.configure ∧ x.priority = y.priority ∧ x.presenceUsed = y.presenceUsed := by
  obtain ⟨epoch, -, configure, priority, presence, -⟩ := Session.mk.inj same
  exact ⟨epoch, configure, priority, presence⟩

/-- Settles O55: a request is a `RequestChange` of its kind, an event of a line or a timer a `BlockChange`. -/
theorem commandsLeaveTheRest : Obligations.CommandsLeaveTheRest := by
  unfold Obligations.CommandsLeaveTheRest
  refine ⟨fun i c s t request ran => ?_, fun i s t ran event => ?_⟩
  · have change := exec_requestChange request ran
    obtain ⟨time, low, flash, choices, pending, groups⟩ := change.frame.fields
    have notRestart (other : ∀ h, i ≠ .restart h) : requestKind i ≠ .restart := fun kind =>
      have ⟨h, restart⟩ := requestKind_restart kind
      other h restart
    refine ⟨time, low, flash, choices, pending, groups, change.ports,
      fun other n foreign => ⟨change.shell (notRestart other) n foreign, change.opens (notRestart other) n foreign⟩,
      fun other noRead noWrite => change.loader (notRestart fun h => (other h).1) fun kind => ?_,
      fun other noStore noDrop => change.store (notRestart other) fun kind => ?_,
      fun other noAdd noDrop => (change.table (notRestart other) fun kind => ?_).slots,
      fun noOpen => change.presence fun kind => ?_⟩
    · obtain ⟨h, f, o, n, read⟩ | ⟨h, o, d, write⟩ | ⟨h, erase⟩ | ⟨h, commit⟩ := requestKind_flash kind
      · exact noRead h f o n read
      · exact noWrite h o d write
      · exact (other h).2.1 erase
      · exact (other h).2.2 commit
    · obtain ⟨h, q, ss, store⟩ | ⟨h, q, drop⟩ := requestKind_store kind
      · exact noStore h q ss store
      · exact noDrop h q drop
    · obtain ⟨h, x, a, y, b, add⟩ | ⟨h, k, drop⟩ := requestKind_table kind
      · exact noAdd h x a y b add
      · exact noDrop h k drop
    · obtain ⟨h, p, m, a, v, opening⟩ := requestKind_opening kind
      exact noOpen h p m a v opening
  · obtain ⟨own, change⟩ : ∃ own, s.BlockChange own t := by
      obtain ⟨l, v, rfl⟩ | ⟨l, rfl | rfl | rfl⟩ | ⟨n, k, rfl⟩ | ⟨n, rfl⟩ | ⟨k, rfl⟩ | ⟨n, k, rfl⟩ | ⟨k, rfl⟩ := event
      · exact ⟨0, exec_observedLevelChange_blockChange 0 ran⟩
      · exact ⟨0, exec_stageEnd_blockChange 0 ran⟩
      · exact ⟨0, exec_readbackDeadline_blockChange 0 ran⟩
      · exact ⟨0, exec_termDeadline_blockChange 0 ran⟩
      · exact ⟨0, exec_patienceDeadline_blockChange 0 ran⟩
      · exact ⟨n, exec_periodDeadline_blockChange ran⟩
      · exact ⟨0, exec_holdDeadline_blockChange 0 ran⟩
      · exact ⟨0, exec_filterDeadline_blockChange 0 ran⟩
      · exact ⟨0, exec_wakeFilterDeadline_blockChange 0 ran⟩
    obtain ⟨time, low, flash, choices, pending, groups, store, presence, loader, ports⟩ := change.frame.fields
    refine ⟨time, low, flash, choices, pending, groups, store, presence, loader, ports, fun n => ?_, change.table.slots⟩
    exact Session.fields_of_rights (change.rights n)

end Sys2Proof.Machine

/-! PROOFS: every step keeps the flash canonical and inside the two slots, and the request slots sound (O60). -/

namespace Sys2Proof.Machine

/-! ### Canonical flash bytes inside the two slots (R147) -/

/-- The bytes are in canonical form and lie in the two slots. -/
structure Memory.Sound (m : List Host.Cell) : Prop where
  canonical : Memory.wf m = true
  inside : ∀ c ∈ m, c.1 < 2 * slotSize

theorem Memory.mem_write {x : Nat} {v : Byte} {c : Host.Cell} :
    ∀ {m : List Host.Cell}, c ∈ Memory.write m x v → c ∈ m ∨ c.1 = x
  | [], listed => by
    rw [Memory.write] at listed
    split_ifs at listed
    · exact .inl listed
    · exact .inr (by rw [List.mem_singleton.mp listed])
  | (a, w) :: m, listed => by
    rw [Memory.write] at listed
    split_ifs at listed
    · exact .inl listed
    · obtain rfl | kept := List.mem_cons.mp listed
      · exact .inr rfl
      · exact .inl kept
    · exact .inl (List.mem_cons_of_mem _ listed)
    · obtain rfl | kept := List.mem_cons.mp listed
      · exact .inr rfl
      · exact .inl (List.mem_cons_of_mem _ kept)
    · obtain rfl | later := List.mem_cons.mp listed
      · exact .inl List.mem_cons_self
      · exact (Memory.mem_write later).imp (List.mem_cons_of_mem _) id

namespace Memory.Sound

variable {m : List Host.Cell}

theorem write (sound : Memory.Sound m) {x : Nat} (inside : x < 2 * slotSize) (v : Byte) :
    Memory.Sound (Memory.write m x v) :=
  ⟨Memory.write_wf x v sound.canonical, fun c listed => (Memory.mem_write listed).elim (sound.inside c) (· ▸ inside)⟩

theorem program : ∀ {data : List Byte} {a : Nat} {m : List Host.Cell}, Memory.Sound m → a + data.length ≤ 2 * slotSize →
    Memory.Sound (Memory.program m a data)
  | [], _, _, sound, _ => sound
  | v :: vs, a, m, sound, fits => by
    rw [List.length_cons] at fits
    rw [Memory.program]
    exact program (sound.write (by omega) _) (by omega)

theorem eraseSector (sound : Memory.Sound m) (a : Nat) : Memory.Sound (Memory.eraseSector m a) :=
  ⟨Memory.eraseSector_wf a sound.canonical, fun c listed => sound.inside c (List.mem_of_mem_filter listed)⟩

theorem erased (sound : Memory.Sound m) (slot : FlashSlot) : Memory.Sound (runCommands (eraseCommands slot) m) :=
  sound.eraseSector slot.base

theorem foldWrites {base : Nat} : ∀ {cells : FlashCells} {m : List Host.Cell}, Memory.Sound m →
    (∀ c ∈ cells, base + c.1 < 2 * slotSize) →
    Memory.Sound (cells.foldl (fun m c => Memory.write m (base + c.1) c.2) m)
  | [], _, sound, _ => sound
  | c :: cells, _, sound, inside => by
    obtain ⟨here, later⟩ := List.forall_mem_cons.mp inside
    rw [List.foldl_cons]
    exact foldWrites (sound.write here c.2) later

end Memory.Sound

theorem FlashSlot.inside (slot : FlashSlot) {o : Nat} (below : o ≤ slotSize) : slot.base + o ≤ 2 * slotSize := by
  cases slot <;> simp only [FlashSlot.base] <;> omega

/-- What a device leaves is in the slot that it works on (log 9). -/
theorem Memory.Sound.leave {m : List Host.Cell} (sound : Memory.Sound m) (slot : FlashSlot) (allowed : Nat → Bool)
    (left : FlashCells) : Memory.Sound (Memory.leave m slot allowed left) := by
  refine sound.foldWrites fun c listed => ?_
  obtain ⟨-, can⟩ := List.mem_filter.mp listed
  obtain ⟨-, below⟩ := (Bool.and_eq_true _ _).mp can
  exact slot.inside (of_decide_eq_true below)

/-! ### Changes that keep the two laws (R160, R168) -/

/-- After the change the flash and the ports are sound where they were before it. -/
def State.KeepsFlash (s t : State) : Prop := s.FlashSound → s.PortsSound → t.FlashSound ∧ t.PortsSound

/-- The fields that the two laws read are the same. -/
structure State.SameFlash (s t : State) : Prop where
  flash : t.flash = s.flash
  ports : t.ports = s.ports
  flashOp : t.loader.flashOp = s.loader.flashOp

/-- A request in process before is still the only one after, its response slot as EMPTY as it was. -/
def PortRecord.KeepsSlots (p q : PortRecord) : Prop :=
  q.request.isSome = true → p.request.isSome = true ∧ (p.response = none → q.response = none)

section
variable {s t u : State}

theorem State.FlashSound.memory (sound : s.FlashSound) : Memory.Sound s.flash :=
  have ⟨canonical, inside, _⟩ := sound
  ⟨canonical, inside⟩

theorem State.KeepsFlash.trans (first : s.KeepsFlash t) (second : t.KeepsFlash u) : s.KeepsFlash u := fun flash ports =>
  have ⟨flash', ports'⟩ := first flash ports
  second flash' ports'

theorem State.KeepsFlash.refl (s : State) : s.KeepsFlash s := fun flash ports => ⟨flash, ports⟩

theorem State.KeepsFlash.ite {p : Prop} [Decidable p] (ifTrue : s.KeepsFlash t) (ifFalse : s.KeepsFlash u) :
    s.KeepsFlash (if p then t else u) := by
  split_ifs
  · exact ifTrue
  · exact ifFalse

/-- A change of the ports alone that begins no request. -/
theorem State.KeepsFlash.of_ports (flash : t.flash = s.flash) (flashOp : t.loader.flashOp = s.loader.flashOp)
    (ports : ∀ n, (s.port n).KeepsSlots (t.port n)) : s.KeepsFlash t := by
  refine fun flashSound portsSound => ⟨?_, fun n inProcess => ?_⟩
  · unfold State.FlashSound
    rw [flash, flashOp]
    exact flashSound
  · obtain ⟨before, response⟩ := ports n inProcess
    obtain ⟨noResponse, working⟩ := portsSound n before
    exact ⟨response noResponse, by rw [flashOp, working]⟩

theorem State.SameFlash.keepsFlash (same : s.SameFlash t) : s.KeepsFlash t := by
  refine .of_ports same.flash same.flashOp fun n => ?_
  have port : t.port n = s.port n := by rw [State.port, same.ports, State.port]
  rw [port]
  exact fun inProcess => ⟨inProcess, id⟩

theorem State.SameFlash.trans (first : s.SameFlash t) (second : t.SameFlash u) : s.SameFlash u :=
  ⟨second.flash.trans first.flash, second.ports.trans first.ports, second.flashOp.trans first.flashOp⟩

theorem State.SameFlash.of_lines (same : s.SameButLines t) : s.SameFlash t := by
  unfold State.SameButLines at same
  rw [same]
  exact ⟨rfl, rfl, rfl⟩

theorem State.BlockChange.sameFlash {own : Port} (change : s.BlockChange own t) : s.SameFlash t := by
  obtain ⟨ports, loader, -, -, flash⟩ := change.fields
  exact ⟨flash, ports, by rw [loader]⟩

theorem State.BlockChange.keepsFlash {own : Port} (change : s.BlockChange own t) : s.KeepsFlash t :=
  change.sameFlash.keepsFlash

theorem PortRecord.KeepsSlots.refl (p : PortRecord) : p.KeepsSlots p := fun inProcess => ⟨inProcess, id⟩

theorem State.keepsFlash_setPort (s : State) (n : Port) {q : PortRecord} (keeps : (s.port n).KeepsSlots q) :
    s.KeepsFlash (s.setPort n q) := by
  refine .of_ports rfl rfl fun m => ?_
  rw [State.port_setPort]
  split_ifs with own
  · rw [own]
    exact keeps
  · exact .refl _

/-- A change of a port's record that leaves both slots as they are. -/
theorem PortRecord.KeepsSlots.of_same {p q : PortRecord} (request : q.request = p.request)
    (response : q.response = p.response) : p.KeepsSlots q := fun inProcess => ⟨request ▸ inProcess, response.trans⟩

/-- A change of a port's record after which no request is in process on it. -/
theorem PortRecord.KeepsSlots.of_none {p q : PortRecord} (request : q.request = none) : p.KeepsSlots q :=
  fun inProcess => by
    rw [request] at inProcess
    cases inProcess

end

/-! ### Requests (R160, R172, R173) -/

theorem State.port_modifyPort_self (s : State) (n : Port) (f : PortRecord → PortRecord) :
    (s.modifyPort n f).port n = f (s.port n) := (s.port_modifyPort n n f).trans (if_pos rfl)

theorem State.port_modifyPort_other (s : State) {n m : Port} (other : m ≠ n) (f : PortRecord → PortRecord) :
    (s.modifyPort n f).port m = s.port m := (s.port_modifyPort n m f).trans (if_neg other)

section
variable {s u : State} {h : Header} {kind : RequestKind}

/-- R173: of an ignored transaction the request slot keeps a mark alone. -/
theorem State.keepsFlash_ignoreFrame (s : State) (n : Port) : s.KeepsFlash (s.ignoreFrame n) := by
  refine s.keepsFlash_setPort n fun inProcess => ⟨?_, id⟩
  rwa [Option.isSome_map] at inProcess

theorem State.SameButRequest.flash {t : State} (frame : s.SameButRequest t) : t.flash = s.flash := by
  unfold State.SameButRequest at frame
  rw [frame]

theorem State.notInProcess {n : Port} (free : ¬ s.inProcess n = true) : (s.port n).request = none := by
  rw [State.inProcess, Option.isSome_iff_ne_none, not_not] at free
  exact free

/-- R160, R172: a request that is answered at once leaves its request slot EMPTY; one whose flash work begins is the only
one in process. -/
theorem Verdict.Serves.keepsFlash {v : Verdict} (served : v.Serves h.port kind u)
    (taken : (u.port h.port).request = none ∧ (u.port h.port).response = none) (discarded : Bool) :
    u.KeepsFlash (v.settle h discarded) := by
  obtain ⟨noRequest, noResponse⟩ := taken
  cases served with
  | @done t r change ports flashOp =>
    have same : u.SameFlash t := ⟨change.frame.flash, ports, flashOp⟩
    refine same.keepsFlash.trans ?_
    rw [Verdict.settle_done]
    refine t.keepsFlash_setPort h.port (.of_none ?_)
    rw [State.port, ports]
    exact noRequest
  | @accepted t op change ports idle begins port inSlot =>
    intro ⟨canonical, inside, _⟩ portsSound
    rw [← change.frame.flash] at canonical inside
    rw [Verdict.settle]
    refine ⟨⟨canonical, inside, fun other working => ?_⟩, fun n inProcess => ?_⟩
    · obtain rfl := Option.some.inj (begins.symm.trans working)
      exact inSlot
    · have record (q : PortRecord) : (t.setPort h.port q).port n = if n = h.port then q else u.port n := by
        rw [State.port, State.port, ← ports]
        exact Table.get_set t.ports h.port n q
      rw [State.modifyPort, record] at inProcess
      rw [State.modifyPort, record]
      split_ifs at inProcess with own
      · rw [if_pos own]
        refine ⟨?_, ?_⟩
        · rw [State.port, ports]
          exact noResponse
        · show t.loader.flashOp.map (·.port) = some n
          rw [begins, own, ← port]
          rfl
      · obtain ⟨-, working⟩ := portsSound n inProcess
        rw [idle] at working
        cases working

theorem State.keepsFlash_serve (s : State) {length : Nat} {judge : State → Verdict}
    (serves : ∀ u : State, (judge u).Serves h.port kind u) : s.KeepsFlash (s.serve h length judge) := by
  unfold State.serve
  split_ifs with accepts busy
  · exact s.keepsFlash_ignoreFrame h.port
  · have noRequest := State.notInProcess busy
    have taken : s.KeepsFlash (s.takeFrame h.port (7 + length) (some h.seq)) :=
      s.keepsFlash_setPort h.port (.of_none noRequest)
    refine taken.trans ((serves _).keepsFlash ?_ _)
    rw [State.takeFrame, State.port_modifyPort_self]
    exact ⟨noRequest, rfl⟩
  · exact .refl s

theorem exec_request_keepsFlash {i : Instr} {c : Checks} (request : requestChecks i = some c) {t : State}
    (ran : exec i s = .next t) : s.KeepsFlash t := by
  obtain ⟨length, judge, serves, served⟩ := exec_serves request s
  obtain rfl := Host.Outcome.next.inj (ran.symm.trans served)
  have sensed : s.SameFlash (s.sensedBy i) :=
    ⟨(s.requestChange_sensedBy i c.header.port).frame.flash, s.sensedBy_ports i, by rw [s.sensedBy_loader i]⟩
  exact sensed.keepsFlash.trans (State.keepsFlash_serve _ serves)

end

/-! ### The end of flash work (R160 to R165) -/

section
variable {s : State} {op : FlashOp}

/-- R165, R174: after the answer no request is in process on the port. -/
theorem State.request_answerFlash (s : State) (n : Port) (reply : Reply) :
    ((s.answerFlash n reply).port n).request = none := by
  unfold State.answerFlash
  cases request : (s.port n).request with
  | none => exact request
  | some r =>
    show ((State.place _ n r.seq reply r.discarded r.ignored).port n).request = none
    rw [State.place, State.port_modifyPort_self, State.port_modifyPort_self]

theorem State.port_answerFlash_other (s : State) {n m : Port} (other : m ≠ n) (reply : Reply) :
    (s.answerFlash n reply).port m = s.port m := by
  unfold State.answerFlash
  cases (s.port n).request with
  | none => rfl
  | some r =>
    show (State.place _ n r.seq reply r.discarded r.ignored).port m = s.port m
    rw [State.place, State.port_modifyPort_other _ other, State.port_modifyPort_other _ other]

theorem State.answerFlash_fields (s : State) (n : Port) (reply : Reply) :
    (s.answerFlash n reply).flash = s.flash ∧ (s.answerFlash n reply).loader = s.loader := by
  unfold State.answerFlash
  cases (s.port n).request with
  | none => exact ⟨rfl, rfl⟩
  | some r => exact ⟨rfl, rfl⟩

/-- R160, R174: with the operation goes the one request in process. -/
theorem State.keepsFlash_endFlash (busy : s.loader.flashOp = some op) (reply : Reply) :
    s.KeepsFlash (s.endFlash op reply) := by
  intro ⟨canonical, inside, _⟩ portsSound
  unfold State.endFlash
  generalize gone : s.modifyLoader (fun r => { r with flashOp := none }) = u
  have flash : u.flash = s.flash := by rw [← gone]; rfl
  have flashOp : u.loader.flashOp = none := by rw [← gone]; rfl
  have port (n : Port) : u.port n = s.port n := by rw [← gone]; rfl
  obtain ⟨sameFlash, sameLoader⟩ := u.answerFlash_fields op.port reply
  refine ⟨?_, fun n inProcess => ?_⟩
  · unfold State.FlashSound
    rw [sameFlash, flash, sameLoader, flashOp]
    exact ⟨canonical, inside, nofun⟩
  · by_cases own : n = op.port
    · rw [own, State.request_answerFlash] at inProcess
      cases inProcess
    · rw [State.port_answerFlash_other u own, port] at inProcess
      obtain ⟨-, working⟩ := portsSound n inProcess
      rw [busy] at working
      exact absurd (Option.some.inj working).symm own

theorem State.keepsFlash_setSpare (s : State) (x : SpareState) : s.KeepsFlash (s.setSpare x) :=
  State.SameFlash.keepsFlash ⟨rfl, rfl, rfl⟩

theorem State.keepsFlash_failFlash (busy : s.loader.flashOp = some op) (failure : FlashFailure) :
    s.KeepsFlash (s.failFlash op failure) := by
  unfold State.failFlash
  generalize noted : s.modifyLoader (fun r => { r with lastFailure := some (failure, s.lineTime) }) = u
  have same : s.SameFlash u := noted ▸ ⟨rfl, rfl, rfl⟩
  exact same.keepsFlash.trans (State.keepsFlash_endFlash (same.flashOp.trans busy) _)

theorem State.keepsFlash_damage (busy : s.loader.flashOp = some op) (failure : FlashFailure) :
    s.KeepsFlash (s.damage op failure) :=
  (s.keepsFlash_setSpare .damaged).trans (State.keepsFlash_failFlash (s := s.setSpare .damaged) busy failure)

/-- The flash after a device's work on the spare, as sound as before it. -/
theorem State.keepsFlash_leave (busy : s.loader.flashOp = some op) {m : List Host.Cell} (left : FlashCells)
    (sound : Memory.Sound s.flash → op.work.inSlot = true → Memory.Sound m) : s.KeepsFlash (s.leave op m left) := by
  intro flashSound portsSound
  have memory := flashSound.memory
  obtain ⟨-, -, inSlot⟩ := flashSound
  obtain ⟨canonical, inside⟩ := (sound memory (inSlot op busy)).leave s.loader.spare op.work.touches left
  exact ⟨⟨canonical, inside, inSlot⟩, portsSound⟩

/-- R161, R162: flash work ends, well or with the spare DAMAGED, once the device has left its bytes. -/
theorem State.keepsFlash_left (busy : s.loader.flashOp = some op) {m : List Host.Cell} (left : FlashCells)
    (sound : Memory.Sound s.flash → op.work.inSlot = true → Memory.Sound m) (x : SpareState) (reply : Reply) :
    s.KeepsFlash (((s.leave op m left).setSpare x).endFlash op reply) :=
  ((State.keepsFlash_leave busy left sound).trans (State.keepsFlash_setSpare _ x)).trans
    (State.keepsFlash_endFlash (s := (s.leave op m left).setSpare x) busy reply)

theorem State.keepsFlash_leave_damage (busy : s.loader.flashOp = some op) {m : List Host.Cell} (left : FlashCells)
    (sound : Memory.Sound s.flash → op.work.inSlot = true → Memory.Sound m) (failure : FlashFailure) :
    s.KeepsFlash ((s.leave op m left).damage op failure) :=
  (State.keepsFlash_leave busy left sound).trans (State.keepsFlash_damage (s := s.leave op m left) busy failure)

theorem State.keepsFlash_endErase (busy : s.loader.flashOp = some op) (left : FlashCells) :
    s.KeepsFlash (s.endErase op left) := by
  have erased (sound : Memory.Sound s.flash) (_ : op.work.inSlot = true) := sound.erased s.loader.spare
  unfold State.endErase
  exact .ite (State.keepsFlash_left busy left erased _ _) (State.keepsFlash_leave_damage busy left erased _)

theorem State.keepsFlash_endWrite {offset : Nat} {data : List Byte} (busy : s.loader.flashOp = some op)
    (work : op.work = .write offset data) (left : FlashCells) : s.KeepsFlash (s.endWrite op offset data left) := by
  have written (sound : Memory.Sound s.flash) (inSlot : op.work.inSlot = true) :
      Memory.Sound (runCommands (programCommands (s.loader.spare.base + offset) data) s.flash) := by
    rw [work] at inSlot
    have fits := s.loader.spare.inside (of_decide_eq_true inSlot)
    rw [runCommands_programCommands]
    exact sound.program (by omega)
  unfold State.endWrite
  exact .ite (State.keepsFlash_left busy left written _ _) (State.keepsFlash_leave_damage busy left written _)

theorem State.keepsFlash_committed (busy : s.loader.flashOp = some op) : s.KeepsFlash (s.committed op) :=
  (s.keepsFlash_setSpare .committed).trans (State.keepsFlash_endFlash (s := s.setSpare .committed) busy _)

theorem State.keepsFlash_programMarker (busy : s.loader.flashOp = some op) (left : FlashCells) :
    s.KeepsFlash (s.programMarker op left) := by
  have marked (sound : Memory.Sound s.flash) (_ : op.work.inSlot = true) :
      Memory.Sound (runCommands (programCommands (s.loader.spare.base + 5) [committedMarker]) s.flash) := by
    have fits := s.loader.spare.inside (o := 6) (by decide)
    rw [runCommands_programCommands]
    exact sound.program (by rw [List.length_singleton]; omega)
  unfold State.programMarker
  exact .ite ((State.keepsFlash_leave busy left marked).trans
    (State.keepsFlash_committed (s := s.leave op _ left) busy)) (State.keepsFlash_leave_damage busy left marked _)

theorem State.keepsFlash_endCommit (busy : s.loader.flashOp = some op) (left : FlashCells) :
    s.KeepsFlash (s.endCommit op left) := by
  unfold State.endCommit
  split
  · exact State.keepsFlash_endFlash busy _
  · exact .ite (State.keepsFlash_committed busy) (State.keepsFlash_programMarker busy left)

/-- R161 to R163: a time-out leaves what the device has left of the flash. -/
theorem State.keepsFlash_timeout (busy : s.loader.flashOp = some op) (left : FlashCells) (failure : FlashFailure) :
    s.KeepsFlash ((s.leave op s.flash left).damage op failure) :=
  State.keepsFlash_leave_damage busy left (fun sound _ => sound) failure

theorem State.flashOp_of_waitedOut {sent : LineTime} {limit : Nat} (waited : s.waitedOut sent limit = some op) :
    s.loader.flashOp = some op := by
  obtain ⟨x, busy, same⟩ := Option.bind_eq_some_iff.mp waited
  rw [Option.ite_none_right_eq_some] at same
  rw [busy, same.2]

end

/-! ### Loads, resets and the ports (R152, R156, R169 to R178) -/

section
variable (s : State)

theorem State.sameFlash_forceAgents (settings : Port → Bool × Bool × Bool) : s.SameFlash (s.forceAgents settings) :=
  ⟨rfl, rfl, rfl⟩

theorem State.sameFlash_force (x : Image) : s.SameFlash (s.force x) := by
  dsimp only [State.force, State.forceAgents, State.forceStatics]
  exact ⟨rfl, rfl, rfl⟩

theorem State.sameFlash_endReady (restart : Bool) (slot : FlashSlot) (generation : BitVec 32) (x : Image) :
    s.SameFlash (s.endReady restart slot generation x) := by
  unfold State.endReady
  generalize read : s.modifyLoader _ = u
  have ready : s.SameFlash u := read ▸ ⟨rfl, rfl, rfl⟩
  have forced := ready.trans (u.sameFlash_force x)
  dsimp only
  split_ifs
  · exact forced.trans (.of_lines (State.resolveConflicts_same _ x))
  · exact forced.trans (.of_lines (State.startUp_same _))

theorem State.sameFlash_degraded : s.SameFlash s.degraded := by
  obtain ⟨loader, -, -, -, -, -, -, ports, flash, -⟩ := s.degraded_fields
  exact ⟨flash, ports, by rw [loader]⟩

theorem State.sameFlash_endDegraded (restart : Bool) : s.SameFlash (s.endDegraded restart) :=
  s.sameFlash_degraded.trans (.of_lines (s.endDegraded_same restart))

theorem State.sameFlash_finishLoad (restart : Bool) : s.SameFlash (s.finishLoad restart) := by
  unfold State.finishLoad
  generalize read : s.modifyLoader _ = u
  have results : s.SameFlash u := read ▸ ⟨rfl, rfl, rfl⟩
  dsimp only
  split
  · exact results.trans (u.sameFlash_endReady restart _ _ _)
  · exact results.trans (u.sameFlash_endDegraded restart)

theorem State.sameFlash_abandonLoad (restart : Bool) : s.SameFlash (s.abandonLoad restart) := by
  unfold State.abandonLoad
  generalize read : s.modifyLoader _ = u
  have results : s.SameFlash u := read ▸ ⟨rfl, rfl, rfl⟩
  exact results.trans (u.sameFlash_endDegraded restart)

theorem State.keepsFlash_of_reset {t : State} (left : FlashCells) (flash : t.flash = s.leftInFlash left)
    (idle : t.loader.flashOp = none) (ports : ∀ n, t.port n = resetPort) : s.KeepsFlash t := by
  intro flashSound _
  have sound : Memory.Sound (s.leftInFlash left) := by
    unfold State.leftInFlash
    cases s.loader.flashOp with
    | none => exact flashSound.memory
    | some op => exact flashSound.memory.leave _ _ _
  obtain ⟨canonical, inside⟩ := sound
  refine ⟨?_, fun n inProcess => ?_⟩
  · unfold State.FlashSound
    rw [flash, idle]
    exact ⟨canonical, inside, nofun⟩
  · rw [ports] at inProcess
    cases inProcess

variable (n : Port)

theorem State.keepsFlash_setDecoder (p : Decoder × Nat) : s.KeepsFlash (s.setDecoder n p) :=
  s.keepsFlash_setPort n (.of_same rfl rfl)

theorem State.keepsFlash_refuseFrame (free : (s.port n).request = none) (seq : Option Byte) (cause : FrameFault)
    (received : Nat) : s.KeepsFlash (s.refuseFrame n seq cause received) := by
  rw [State.refuseFrame_eq]
  exact s.keepsFlash_setPort n (.of_none free)

theorem State.keepsFlash_losePresence (midFrame : Bool) : s.KeepsFlash (s.losePresence n midFrame) := by
  have cleared : s.KeepsFlash (s.modifyPort n fun p => p.cleared midFrame) := s.keepsFlash_setPort n (.of_none rfl)
  have ended (u : State) : u.KeepsFlash (u.endSession n .presence) := (u.blockChange_endSession n _).keepsFlash
  unfold State.losePresence
  split_ifs
  · cases s.partState with
    | starting => exact .refl s
    | ready => exact cleared.trans (ended _)
    | degraded => exact ended s
  · exact .refl s

end

/-! ### Every command and every step -/

section
variable {s t : State}

theorem exec_badFrame_keepsFlash {n : Port} {seq : Option Byte} {cause : FrameFault} {received : Nat}
    (ran : exec (.badFrame n seq cause received) s = .next t) : s.KeepsFlash t := by
  obtain rfl := Host.Outcome.next.inj ran
  split_ifs with accepts busy
  · exact (s.keepsFlash_ignoreFrame n).trans (State.keepsFlash_setDecoder _ n _)
  · exact s.keepsFlash_refuseFrame n (State.notInProcess busy) seq cause received
  · exact .refl s

theorem exec_presenceFall_keepsFlash {n : Port} {midFrame : Bool} (ran : exec (.presenceFall n midFrame) s = .next t) :
    s.KeepsFlash t := by
  have sensed : s.KeepsFlash (s.sense n false) := State.SameFlash.keepsFlash ⟨rfl, rfl, rfl⟩
  obtain rfl := Host.Outcome.next.inj ran
  exact .ite sensed (sensed.trans (State.keepsFlash_losePresence _ n midFrame))

theorem exec_responseConsumed_keepsFlash {n : Port} (ran : exec (.responseConsumed n) s = .next t) : s.KeepsFlash t := by
  obtain rfl := Host.Outcome.next.inj ran
  split
  · exact .refl s
  · exact s.keepsFlash_setPort n fun inProcess => ⟨inProcess, fun _ => rfl⟩

theorem exec_loadEnd_keepsFlash (ran : exec .loadEnd s = .next t) : s.KeepsFlash t := by
  obtain rfl := Host.Outcome.next.inj ran
  split
  · exact .refl s
  · exact (s.sameFlash_finishLoad _).keepsFlash

theorem exec_loadStatusTimeout_keepsFlash (ran : exec .loadStatusTimeout s = .next t) : s.KeepsFlash t := by
  obtain rfl := Host.Outcome.next.inj ran
  split
  · exact .refl s
  · exact (s.sameFlash_abandonLoad _).keepsFlash

theorem exec_eraseEnd_keepsFlash {left : FlashCells} (ran : exec (.eraseEnd left) s = .next t) : s.KeepsFlash t := by
  obtain rfl := Host.Outcome.next.inj ran
  split
  · exact .refl s
  next op busy =>
    split
    · exact State.keepsFlash_endErase busy left
    all_goals exact .refl s

theorem exec_eraseTimeout_keepsFlash {wait : FlashWait} (ran : exec (.eraseTimeout wait) s = .next t) :
    s.KeepsFlash t := by
  obtain rfl := Host.Outcome.next.inj ran
  split
  · exact .refl s
  next op waited =>
    split
    · exact State.keepsFlash_timeout (State.flashOp_of_waitedOut waited) wait.left _
    all_goals exact .refl s

theorem exec_writeEnd_keepsFlash {left : FlashCells} (ran : exec (.writeEnd left) s = .next t) : s.KeepsFlash t := by
  obtain rfl := Host.Outcome.next.inj ran
  split
  · exact .refl s
  next op busy =>
    split
    next offset data work => exact State.keepsFlash_endWrite busy work left
    all_goals exact .refl s

theorem exec_programTimeout_keepsFlash {wait : FlashWait} (ran : exec (.programTimeout wait) s = .next t) :
    s.KeepsFlash t := by
  obtain rfl := Host.Outcome.next.inj ran
  split
  · exact .refl s
  next op waited =>
    have expired := State.keepsFlash_timeout (State.flashOp_of_waitedOut waited) wait.left .programTimeout
    split
    · exact expired
    · exact .ite expired (.refl s)
    all_goals exact .refl s

theorem exec_commitEnd_keepsFlash {left : FlashCells} (ran : exec (.commitEnd left) s = .next t) : s.KeepsFlash t := by
  obtain rfl := Host.Outcome.next.inj ran
  split
  · exact .refl s
  next op busy =>
    split
    · exact State.keepsFlash_endCommit busy left
    all_goals exact .refl s

theorem exec_readEnd_keepsFlash (ran : exec .readEnd s = .next t) : s.KeepsFlash t := by
  obtain rfl := Host.Outcome.next.inj ran
  split
  · exact .refl s
  next op busy =>
    split
    · exact State.keepsFlash_endFlash busy _
    all_goals exact .refl s

theorem exec_flashStatusBusy_keepsFlash (ran : exec .flashStatusBusy s = .next t) : s.KeepsFlash t := by
  obtain rfl := Host.Outcome.next.inj ran
  split
  · exact .refl s
  next op busy => exact State.keepsFlash_failFlash busy _

theorem exec_keepsFlash {i : Instr} (ran : exec i s = .next t) : s.KeepsFlash t := by
  cases request : requestChecks i with
  | some c => exact exec_request_keepsFlash request ran
  | none =>
    cases i
    case badFrame n seq cause received => exact exec_badFrame_keepsFlash ran
    case badRequest h cause length =>
      obtain rfl := Host.Outcome.next.inj ran
      exact s.keepsFlash_serve (kind := .plain) fun u => Verdict.serves_refl u
    case requestIgnored n =>
      obtain rfl := Host.Outcome.next.inj ran
      exact .ite (s.keepsFlash_ignoreFrame n) (.refl s)
    case collect n =>
      obtain rfl := Host.Outcome.next.inj ran
      exact .ite (s.keepsFlash_setPort n (.of_same rfl rfl)) (.refl s)
    case responseConsumed n => exact exec_responseConsumed_keepsFlash ran
    case presenceFall n midFrame => exact exec_presenceFall_keepsFlash ran
    case resetLow left =>
      obtain rfl := Host.Outcome.next.inj ran
      exact s.keepsFlash_of_reset left rfl rfl (s.port_resetAll left)
    case resetRelease levels left =>
      obtain rfl := Host.Outcome.next.inj ran
      exact s.keepsFlash_of_reset left rfl rfl (s.port_resetAll left)
    case loadEnd => exact exec_loadEnd_keepsFlash ran
    case loadStatusTimeout => exact exec_loadStatusTimeout_keepsFlash ran
    case observedLevelChange l v => exact (exec_observedLevelChange_blockChange 0 ran).keepsFlash
    case stageEnd l => exact (exec_stageEnd_blockChange 0 ran).keepsFlash
    case readbackDeadline l => exact (exec_readbackDeadline_blockChange 0 ran).keepsFlash
    case termDeadline l => exact (exec_termDeadline_blockChange 0 ran).keepsFlash
    case patienceDeadline n k => exact (exec_patienceDeadline_blockChange 0 ran).keepsFlash
    case periodDeadline n => exact (exec_periodDeadline_blockChange ran).keepsFlash
    case holdDeadline k => exact (exec_holdDeadline_blockChange 0 ran).keepsFlash
    case filterDeadline n k => exact (exec_filterDeadline_blockChange 0 ran).keepsFlash
    case wakeFilterDeadline k => exact (exec_wakeFilterDeadline_blockChange 0 ran).keepsFlash
    case eraseEnd left => exact exec_eraseEnd_keepsFlash ran
    case eraseTimeout wait => exact exec_eraseTimeout_keepsFlash ran
    case writeEnd left => exact exec_writeEnd_keepsFlash ran
    case programTimeout wait => exact exec_programTimeout_keepsFlash ran
    case commitEnd left => exact exec_commitEnd_keepsFlash ran
    case readEnd => exact exec_readEnd_keepsFlash ran
    case selectRelease n =>
      obtain rfl := Host.Outcome.next.inj ran
      exact .ite (.refl s) (s.keepsFlash_setPort n (.of_same rfl rfl))
    case ignoredTransaction n =>
      obtain rfl := Host.Outcome.next.inj ran
      exact .ite (s.keepsFlash_setDecoder n _) (.refl s)
    case flashStatusBusy => exact exec_flashStatusBusy_keepsFlash ran
    all_goals cases request

/-- R129: the choice among the deadlines that are due counts itself, and nothing else. -/
theorem State.sameFlash_nextDue {c : Instr} (due : s.nextDue = some (c, t)) : s.SameFlash t := by
  unfold State.nextDue at due
  split at due
  · cases due
  · cases due
    exact ⟨rfl, rfl, rfl⟩
  · cases due
    exact ⟨rfl, rfl, rfl⟩

theorem idle_keepsFlash (ran : idle s = .next t) : s.KeepsFlash t := by
  unfold idle at ran
  split_ifs at ran
  · obtain rfl := Host.Outcome.next.inj ran
    exact .refl s
  · split at ran
    · obtain rfl := Host.Outcome.next.inj ran
      exact State.SameFlash.keepsFlash ⟨rfl, rfl, rfl⟩
    next due => exact (State.sameFlash_nextDue due).keepsFlash.trans (exec_keepsFlash ran)

theorem step_keepsFlash (ran : step s = .next t) : s.KeepsFlash t := by
  unfold step at ran
  split at ran
  next c rest _ =>
    have taken : s.SameFlash { s with pending := rest } := ⟨rfl, rfl, rfl⟩
    exact taken.keepsFlash.trans (exec_keepsFlash ran)
  · exact idle_keepsFlash ran

end

/-- Settles O60: a step is a command or the part's clock, and each of them keeps both laws (`KeepsFlash`). -/
theorem everyStepKeepsFlashAndPortsSound : Obligations.EveryStepKeepsFlashAndPortsSound := by
  unfold Obligations.EveryStepKeepsFlashAndPortsSound
  exact fun s t flashSound portsSound ran => step_keepsFlash ran flashSound portsSound

end Sys2Proof.Machine
